-- ==== Sys2Proof/Word.lean ====
section
/-! DEFINITION. The word types of the block (00_scope.md R9, R10): unsigned bit fields and one-bit values. -/

namespace Sys2Proof

/-- One byte of the 24-bit transfer buffer (20_memory.md R39). -/
abbrev Byte := BitVec 8

/-- A one-bit value: `true` is 1 and `false` is 0 (00_scope.md R13). -/
abbrev Bit := Bool

/-- A 19-bit register word as the serial bus carries it (30_encoding.md R57, R59). -/
abbrev SerialWord := BitVec 19

/-- A 9-bit command word (30_encoding.md R53). -/
abbrev CommandWord := BitVec 9

end Sys2Proof
end

