-- ==== Sys2Proof/Config.lean ====
section
/-! DEFINITION. What a build fixes (00_scope.md R7) and the free values the spec calls draws
(40_divider_calculator.md R83). -/

namespace Sys2Proof

/-- The OPEN parameters of the block (00_scope.md R7; 92_eei_decisions.md D6, D7, D9): a model takes them as
arguments. The parameters R7 marks `fixed` are constants of the units that use them. -/
structure Config where
  /-- `F_CLK_HZ`, the frequency of `clk` in Hz. -/
  fClkHz : Nat
  /-- `N_PRE`, cycles of SETUP. -/
  nPre : Nat
  /-- `N_DSU`, cycles of DATA. -/
  nDsu : Nat
  /-- `N_CH`, cycles of CLKH. -/
  nCh : Nat
  /-- `N_CL`, cycles of CLKL. -/
  nCl : Nat
  /-- `N_LEH`, cycles of LEH. -/
  nLeh : Nat
  /-- `N_LEL`, cycles of LEL. -/
  nLel : Nat
  /-- `VALIDATE_CHANNEL`: reject an out-of-range TUNE. -/
  validateChannel : Bool
  /-- `CORRECT_ON_TIE`: run the correction on B = A as well. -/
  correctOnTie : Bool
  deriving DecidableEq, Repr

/-- The reference configuration of 00_scope.md R7. -/
def Config.reference : Config where
  fClkHz := 1000000
  nPre := 2
  nDsu := 20
  nCh := 10
  nCl := 10
  nLeh := 10
  nLel := 10
  validateChannel := false
  correctOnTie := false

/-- The drawn reference-mode bit of the `k`-th out-of-range TUNE (40_divider_calculator.md R83). FREE VALUE, log 3:
no body, so nothing can be proved of it. -/
opaque Config.drawRefMode : Nat → Bit

/-- The 18 drawn bits above the C bit of the N word of the `k`-th out-of-range TUNE (R83). FREE VALUE, log 3. -/
opaque Config.drawNUpper : Nat → BitVec 18

/-- The drawn dial value of the `k`-th out-of-range TUNE (R83). FREE VALUE, log 3. -/
opaque Config.drawDial : Nat → BitVec 16

end Sys2Proof
end

