-- ==== Sys2Proof/Machine/State.lean ====
section
/-! DEFINITION. The block's state, element for element the table of 10_state.md R19, with the build's parameters, the
inputs the host presents and the draw counter beside it; the reasons to stop; the reset state. -/

namespace Sys2Proof.Machine

/-- The sequencer's position (10_state.md R20). -/
inductive Phase where
  | idle | setup | data | clkh | clkl | leh | lel
  deriving DecidableEq, Repr

/-- The running command (10_state.md R19). -/
inductive Op where
  | tune | init
  deriving DecidableEq, Repr

/-- Which frame of the command is running (10_state.md R19). -/
inductive FrameId where
  | frR | frN
  deriving DecidableEq, Repr

/-- The input ports in one cycle (10_state.md R15); `clk` is the step itself. -/
structure Input where
  rst : Bit
  cmdValid : Bit
  cmd : CommandWord
  deriving DecidableEq, Repr

/-- Ports on which the host presents nothing: no reset and no command. -/
def Input.quiet : Input := ⟨false, false, 0⟩

/-- Ports on which the host offers the command word `w`. -/
def Input.offer (w : CommandWord) : Input := ⟨false, true, w⟩

/-- The state during one cycle. The first three fields are the model's own (log 1, 2, 3); the others are exactly the
elements of 10_state.md R19. -/
structure State where
  /-- The build's parameters (00_scope.md R7); no step writes them. -/
  cfg : Config
  /-- What the host presents on the input ports from this cycle on, this cycle first; quiet after the end. -/
  inputs : List Input
  /-- How many out-of-range TUNEs have drawn: the index of the free values of 40_divider_calculator.md R83. -/
  draws : Nat
  phase : Phase
  op : Op
  frame : FrameId
  /-- `ref_mode`, the reference-mode flag (R21). -/
  refMode : Bit
  /-- `n_word`, the packed N word of the current TUNE (R22). -/
  nWord : SerialWord
  /-- The transfer buffer after its pre-shifts (R23). -/
  shreg : BitVec 24
  /-- Bits of the frame not yet placed on `pll_data`, 0..19 (R24). -/
  bitsLeft : Nat
  /-- Cycles left in the phase, minus one (R25). -/
  timer : Nat
  pllClk : Bit
  pllLe : Bit
  pllData : Bit
  /-- The dial value of the last TUNE that was not rejected (R27). -/
  dial : BitVec 16
  done : Bit
  errInvalid : Bit
  deriving DecidableEq, Repr

/-- Reasons for the machine to stop: none. No command, operand or bus condition stops the block
(60_exceptions.md R126; 93_implementation_defined.md, last line of Part 1). -/
inductive Fault
  deriving DecidableEq, Repr

/-- Why a step has no meaning. -/
inductive Refusal where
  /-- Raised by no arm of this model: every instruction has its meaning. It would be safe. -/
  | notModelled (mnemonic : String)
  /-- Raised by `step` in every state whose build is below the minima of 42_serializer.md R98: such a build does not
  conform and a model should refuse it (93_implementation_defined.md U11). Safe. -/
  | nonconformingBuild
  deriving DecidableEq, Repr

/-- The reset values of 10_state.md R19, in a build with parameters `c`, with nothing on the ports and nothing drawn. -/
def State.resetOf (c : Config) : State where
  cfg := c
  inputs := []
  draws := 0
  phase := .idle
  op := .tune
  frame := .frR
  refMode := false
  nWord := 0
  shreg := 0
  bitsLeft := 0
  timer := 0
  pllClk := false
  pllLe := false
  pllData := false
  dial := 0
  done := false
  errInvalid := false

/-- The machine right after reset (10_state.md R19), in the reference configuration (00_scope.md R7). -/
def State.reset : State := State.resetOf Config.reference

end Sys2Proof.Machine
end

