-- ==== Sys2Proof/Machine/Operands.lean ====
section
/-! DEFINITION. Every operand form: the channel and its range (30_encoding.md R55), the dial counter (R56), the split and
the packing of the N word (40_divider_calculator.md R74, R79) and its unpacking (30_encoding.md R57). -/

namespace Sys2Proof.Machine

/-- `1 ≤ ch ≤ 190` (30_encoding.md R55): `CH_MIN` and `CH_MAX` of 00_scope.md R7. -/
def inRange (ch : BitVec 8) : Bool := decide (1 ≤ ch.toNat) && decide (ch.toNat ≤ 190)

/-- Step 1 of COMPUTE, `F = 881 + (ch - 1)` (40_divider_calculator.md R72). -/
def dialCounter (ch : BitVec 8) : Nat := 881 + ch.toNat - 1

/-- `PRESCALE`, the divisor of both splits (40_divider_calculator.md R74). -/
def prescale : Nat := 32

/-- `B = F div 32` (40_divider_calculator.md R74). -/
def coarse (f : Nat) : Nat := f / prescale

/-- `A = F mod 32` (40_divider_calculator.md R74). -/
def fine (f : Nat) : Nat := f % prescale

/-- Step 5, `n = trunc_19(((B << 7) | A) << 1)` (40_divider_calculator.md R79). -/
def packN (b a : Nat) : SerialWord := BitVec.ofNat 19 (((b <<< 7) ||| a) <<< 1)

/-- `A = (N >> 1) & 0x7F` (30_encoding.md R57). -/
def unpackA (n : SerialWord) : Nat := (n.toNat >>> 1) &&& 0x7F

/-- `B = (N >> 8) & 0x7FF` (30_encoding.md R57). -/
def unpackB (n : SerialWord) : Nat := (n.toNat >>> 8) &&& 0x7FF

end Sys2Proof.Machine
end

