-- ==== Sys2Proof/Machine/Flags.lean ====
section
/-! DEFINITION. The block's one flag, `ref_mode` (10_state.md R32): the condition that sets it. -/

namespace Sys2Proof.Machine

/-- The correction condition of 40_divider_calculator.md R75: `B < A` strictly, and `B = A` as well in a build with
`CORRECT_ON_TIE`. It is also the new reference-mode bit r (R76, R77). -/
def needsCorrection (correctOnTie : Bool) (b a : Nat) : Bool :=
  decide (b < a) || (correctOnTie && b == a)

end Sys2Proof.Machine
end

