-- ==== Sys2Proof/Machine/Divider.lean ====
section
/-! DEFINITION. DC, the Divider Calculator: COMPUTE (40_divider_calculator.md). -/

namespace Sys2Proof.Machine

/-- The results of COMPUTE (40_divider_calculator.md R71): the reference-mode bit, the divider pair, the packed N word
and the dial value. -/
structure Dividers where
  r : Bit
  b : Nat
  a : Nat
  n : SerialWord
  d : BitVec 16
  deriving DecidableEq, Repr

/-- The count that is split for transmission: 2 × F when the correction runs (R76, R80), F otherwise (R77). -/
def splitCount (correctOnTie : Bool) (f : Nat) : Nat :=
  if needsCorrection correctOnTie (coarse f) (fine f) then 2 * f else f

/-- COMPUTE (40_divider_calculator.md R81), for 1 ≤ ch ≤ 190; TUNE asks it for no other channel (R83; log 16). -/
def compute (correctOnTie : Bool) (ch : BitVec 8) : Dividers :=
  let f := dialCounter ch
  let b := coarse (splitCount correctOnTie f)
  let a := fine (splitCount correctOnTie f)
  { r := needsCorrection correctOnTie (coarse f) (fine f)
    b := b
    a := a
    n := packN b a
    d := BitVec.ofNat 16 f }

/-- The drawn N word of an out-of-range TUNE: 18 free bits above C = 0 (40_divider_calculator.md R83). -/
def drawnN (k : Nat) : SerialWord := Config.drawNUpper k ++ 0#1

end Sys2Proof.Machine
end

