-- ==== Sys2Proof/Machine/Selector.lean ====
section
/-! DEFINITION. RS, the Reference-Divider Selector: SELECT (41_reference_selector.md). -/

namespace Sys2Proof.Machine

/-- SELECT (41_reference_selector.md R85): `R_LOW` or `R_HIGH`, masked to 16 bits (R86). -/
def select (r : Bit) : SerialWord :=
  BitVec.ofNat 19 ((if r then 0x080A1 else 0x08051) &&& 0xFFFF)

end Sys2Proof.Machine
end

