-- ==== Sys2Proof/Machine/Timing.lean ====
section
/-! DEFINITION. Phase lengths: their minima (42_serializer.md R98), the phase of each, and the length of a frame (R101). -/

namespace Sys2Proof.Machine

/-- `max(1, ceil(us × 10⁻⁶ × F_CLK_HZ))` (42_serializer.md R98). -/
def minCycles (us fClkHz : Nat) : Nat := max 1 ((us * fClkHz + 999999) / 1000000)

/-- A conforming build (42_serializer.md R98; 00_scope.md R7): a positive clock frequency, and every phase at least as
long as its minimum. -/
def buildConforms (c : Config) : Bool :=
  decide (0 < c.fClkHz) &&
  decide (minCycles 2 c.fClkHz ≤ c.nPre) &&
  decide (minCycles 20 c.fClkHz ≤ c.nDsu) &&
  decide (minCycles 10 c.fClkHz ≤ c.nCh) &&
  decide (minCycles 10 c.fClkHz ≤ c.nCl) &&
  decide (minCycles 10 c.fClkHz ≤ c.nLeh) &&
  decide (minCycles 10 c.fClkHz ≤ c.nLel)

/-- The cycles of each phase of a frame (42_serializer.md R93-R97); IDLE has no length. -/
def phaseCycles (c : Config) : Phase → Nat
  | .idle => 0
  | .setup => c.nPre
  | .data => c.nDsu
  | .clkh => c.nCh
  | .clkl => c.nCl
  | .leh => c.nLeh
  | .lel => c.nLel

/-- The longest phase, the bound of `timer` plus one (10_state.md R19, R25). -/
def maxPhaseCycles (c : Config) : Nat :=
  max c.nPre (max c.nDsu (max c.nCh (max c.nCl (max c.nLeh c.nLel))))

/-- `L`, the cycles of one frame (42_serializer.md R101). -/
def frameLength (c : Config) : Nat :=
  c.nPre + 19 * (c.nDsu + c.nCh + c.nCl) + c.nLeh + c.nLel

end Sys2Proof.Machine
end

