-- ==== Sys2Proof/Machine/Ops.lean ====
section
/-! DEFINITION. The named operations on State that every meaning and the sequencer are built from. Each is what one
rule of the spec writes at one rising edge. -/

namespace Sys2Proof.Machine

/-- The output `busy` (10_state.md R30). -/
def State.busy (s : State) : Bit := decide (s.phase ≠ .idle)

/-- The input ports in this cycle (10_state.md R15); quiet once the host presents nothing more (log 2). -/
def State.ports (s : State) : Input := s.inputs.headD Input.quiet

/-- The next cycle's ports become the current ones. -/
def State.dropInput (s : State) : State := { s with inputs := s.inputs.tail }

/-- The default of every edge: `done <- 0`, `err_invalid <- 0` (43_commands.md R118). -/
def State.clearPulses (s : State) : State := { s with done := false, errInvalid := false }

/-- Synchronous reset (70_reset_and_hazards.md R141): every element of 10_state.md R19 takes its reset value. The
build, the coming inputs and the draw counter are no elements and stay. -/
def State.applyReset (s : State) : State :=
  { State.resetOf s.cfg with inputs := s.inputs, draws := s.draws }

/-- `enter(p, n)` (42_serializer.md R99). -/
def State.enter (p : Phase) (n : Nat) (s : State) : State := { s with phase := p, timer := n - 1 }

/-- An edge inside a phase (42_serializer.md R99): the timer counts down. -/
def State.countDown (s : State) : State := { s with timer := s.timer - 1 }

/-- `start_frame(w)` (42_serializer.md R92). -/
def State.startFrame (w : SerialWord) (s : State) : State :=
  State.enter .setup s.cfg.nPre
    { s with shreg := w.setWidth 24 <<< 5, bitsLeft := 19, pllClk := false }

/-- `enter_data` (42_serializer.md R94). `bits_left` is above 0 at every such entry of a run (`Inv.bits_left`; log 8). -/
def State.enterData (s : State) : State :=
  State.enter .data s.cfg.nDsu
    { s with pllData := s.shreg.getLsbD 23, shreg := s.shreg <<< 1, bitsLeft := s.bitsLeft - 1 }

/-- The end of a DATA phase (42_serializer.md R95). -/
def State.raiseClock (s : State) : State := State.enter .clkh s.cfg.nCh { s with pllClk := true }

/-- The end of a CLKH phase (42_serializer.md R95). -/
def State.lowerClock (s : State) : State := State.enter .clkl s.cfg.nCl { s with pllClk := false }

/-- The end of the last CLKL phase (42_serializer.md R96). -/
def State.raiseLatch (s : State) : State := State.enter .leh s.cfg.nLeh { s with pllLe := true }

/-- The end of an LEH phase (42_serializer.md R97). -/
def State.lowerLatch (s : State) : State := State.enter .lel s.cfg.nLel { s with pllLe := false }

/-- The end of a command (43_commands.md R114, R115): `phase <- IDLE`, `done <- 1`. -/
def State.finishCommand (s : State) : State := { s with phase := .idle, done := true }

/-- TUNE stores COMPUTE's results (40_divider_calculator.md R84). -/
def State.storeTuning (r : Bit) (n : SerialWord) (d : BitVec 16) (s : State) : State :=
  { s with refMode := r, nWord := n, dial := d }

/-- An accepted command records itself and its first frame (43_commands.md R113, R115). -/
def State.beginCommand (o : Op) (s : State) : State := { s with op := o, frame := .frR }

/-- The second frame of a TUNE is the N frame (43_commands.md R121, phase LEL). -/
def State.secondFrame (s : State) : State := { s with frame := .frN }

/-- One out-of-range TUNE has drawn (40_divider_calculator.md R83; log 3). -/
def State.advanceDraws (s : State) : State := { s with draws := s.draws + 1 }

/-- `raise InvalidChannel` (60_exceptions.md R128; 43_commands.md R117): the two pulses and nothing else. It saves no
state and enters no handler, and there is no return from it (R132, R133). -/
def State.raiseInvalidChannel (s : State) : State := { s with done := true, errInvalid := true }

end Sys2Proof.Machine
end

