-- ==== Sys2Proof/Machine/Commands.lean ====
section
/-! DEFINITION. The commands TUNE and INIT at their acceptance edge (43_commands.md R113, R115). -/

namespace Sys2Proof.Machine

/-- What a TUNE that is not rejected does with the results r, n, d (43_commands.md R113): store them, record the
command, and start the R frame with SELECT(r). -/
def State.beginTune (r : Bit) (n : SerialWord) (d : BitVec 16) (s : State) : State :=
  ((s.storeTuning r n d).beginCommand .tune).startFrame (select r)

/-- TUNE (43_commands.md R113): in range, COMPUTE's results; out of range, rejected by a validating build (R117) and
run with drawn results by any other (40_divider_calculator.md R83). -/
def execTune (ch : BitVec 8) (s : State) : Host.Outcome State Fault Refusal :=
  if inRange ch then
    let c := compute s.cfg.correctOnTie ch
    .next (s.clearPulses.beginTune c.r c.n c.d)
  else if s.cfg.validateChannel then
    .next s.clearPulses.raiseInvalidChannel
  else
    .next (s.clearPulses.advanceDraws.beginTune
      (Config.drawRefMode s.draws) (drawnN s.draws) (Config.drawDial s.draws))

/-- INIT (43_commands.md R115): one R frame with `R_LOW`, whatever `ref_mode` holds. -/
def execInit (s : State) : Host.Outcome State Fault Refusal :=
  .next ((s.clearPulses.beginCommand .init).startFrame (select false))

end Sys2Proof.Machine
end

