-- ==== Sys2Proof/Syntax.lean ====
section
/-! DEFINITION. The instructions: one constructor per row of spec/opcode_table.json, and the two kinds of word
that encode them. -/

namespace Sys2Proof

/-- The rows of the opcode table. TUNE and INIT are the commands the host offers (30_encoding.md R53, R54);
FRAME_R and FRAME_N are the register words the block itself sends on the serial bus (R57, R59, R60). -/
inductive Instr where
  /-- `TUNE <ch>`: tune the chip to channel `ch` (43_commands.md R113). -/
  | tune (ch : BitVec 8)
  /-- `INIT`: load the low-reference R word (43_commands.md R115). Its bits 7:0 are ignored, so it has no operand. -/
  | init
  /-- FRAME_R: an R-counter word, C = 1, with its upper field 18:14 and divider 13:1 (30_encoding.md R60). -/
  | frameR (upper : BitVec 5) (div : BitVec 13)
  /-- FRAME_N: an N-counter word, C = 0, with B in 18:8 and A in 7:1 (30_encoding.md R57). -/
  | frameN (b : BitVec 11) (a : BitVec 7)
  deriving DecidableEq, Repr

/-- An encoded instruction, on the interface that carries it: the command port (R53) or the serial bus (R62). -/
inductive CodeWord where
  | command (w : CommandWord)
  | serial (w : SerialWord)
  deriving DecidableEq, Repr

end Sys2Proof
end

