-- ==== Sys2Proof/WellFormed.lean ====
section
/-! DEFINITION. Which instructions the block can hold or send. -/

namespace Sys2Proof

/-- An R word is one of the two constants: upper field 0b00010 and divider 40 or 80 (30_encoding.md R59, R60, R65).
Every command and every N word is well formed: the decode is total (R54), and a drawn N word may have any B and A
(40_divider_calculator.md R83). -/
def Instr.wellFormed : Instr → Bool
  | .tune _ => true
  | .init => true
  | .frameR upper div => upper == 0b00010#5 && (div == 40#13 || div == 80#13)
  | .frameN _ _ => true

end Sys2Proof
end

