-- ==== Sys2Proof/Decode.lean ====
section
/-! DEFINITION. Decoding and encoding: the command word (30_encoding.md R53, R54), the two serial words
(R57, R59, R60, R63) and the three-byte transfer buffer (20_memory.md R39). -/

namespace Sys2Proof

/-- The command a command word encodes (30_encoding.md R54): total on all 512 words. -/
def decodeCommand (w : CommandWord) : Instr :=
  if w.getLsbD 8 then .init else .tune (w.extractLsb' 0 8)

/-- The frame a 19-bit serial word is (30_encoding.md R63): bit 0, the C bit, tells R from N. -/
def decodeSerial (w : SerialWord) : Instr :=
  if w.getLsbD 0 then .frameR (w.extractLsb' 14 5) (w.extractLsb' 1 13)
  else .frameN (w.extractLsb' 8 11) (w.extractLsb' 1 7)

/-- Decoding on either interface. -/
def decode : CodeWord → Instr
  | .command w => decodeCommand w
  | .serial w => decodeSerial w

/-- The 24-bit value of a transfer buffer, byte 0 least significant (20_memory.md R39). -/
def bufferValue (byte0 byte1 byte2 : Byte) : BitVec 24 := byte2 ++ (byte1 ++ byte0)

/-- Why bytes are no instruction. -/
inductive DecodeReject where
  /-- Neither two bytes (a command word) nor three (a transfer buffer). -/
  | length (n : Nat)
  /-- A command word's two bytes hold a bit above bit 8 (log 6). -/
  | strayCommandBits
  deriving DecidableEq, Repr

/-- Decoding bytes. Two bytes carry a command word, low byte first (DESIGN CHOICE, log 6: the port is 9 bits wide and
has no bytes). Three bytes are a transfer buffer (20_memory.md R39), whose bits 23:19 are padding and are not read
(30_encoding.md R61; 42_serializer.md R91, R92; DEDUCED, log 7). -/
def decodeBytes : List Byte → Except DecodeReject Instr
  | [byte0, byte1] =>
    if byte1.extractLsb' 1 7 = 0#7 then .ok (decodeCommand (byte1.extractLsb' 0 1 ++ byte0))
    else .error .strayCommandBits
  | [byte0, byte1, byte2] => .ok (decodeSerial ((bufferValue byte0 byte1 byte2).extractLsb' 0 19))
  | bytes => .error (.length bytes.length)

/-- The first `k` bytes of `w`, least significant first. -/
def littleEndianBytes : Nat → Nat → List Byte
  | 0, _ => []
  | k + 1, w => BitVec.ofNat 8 w :: littleEndianBytes k (w / 256)

/-- The instruction read from a word numbered as spec/opcode_table.json numbers it: up to 16 bits a command word,
up to 24 a serial word in its transfer buffer. -/
def decodeTableWord (nbits w : Nat) : Option Instr :=
  match decodeBytes (littleEndianBytes ((nbits + 7) / 8) w) with
  | .ok i => some i
  | .error _ => none

/-- The R word with the given fields (30_encoding.md R60): C = 1 in bit 0. -/
def serialWordR (upper : BitVec 5) (div : BitVec 13) : SerialWord := upper ++ (div ++ 1#1)

/-- The N word with the given fields (30_encoding.md R57): C = 0 in bit 0. -/
def serialWordN (b : BitVec 11) (a : BitVec 7) : SerialWord := b ++ (a ++ 0#1)

/-- The encoder: commands by 30_encoding.md R67 (`TUNE <ch>` is `0x000 | ch`, `INIT` is 0x100), frames by R57, R60. -/
def encode : Instr → CodeWord
  | .tune ch => .command (0#1 ++ ch)
  | .init => .command 0x100#9
  | .frameR upper div => .serial (serialWordR upper div)
  | .frameN b a => .serial (serialWordN b a)

/-- The bytes of an encoded word: a command word in two bytes (log 6), a serial word in its three-byte transfer buffer,
`byte2 = {00000, w[18:16]}` (20_memory.md R39). -/
def encodeBytes : CodeWord → List Byte
  | .command w => [w.extractLsb' 0 8, 0#7 ++ w.extractLsb' 8 1]
  | .serial w => [w.extractLsb' 0 8, w.extractLsb' 8 8, 0#5 ++ w.extractLsb' 16 3]

/-- The number of an encoded word in the opcode table's numbering. -/
def CodeWord.number : CodeWord → Nat
  | .command w => w.toNat
  | .serial w => w.toNat

/-- The width of an encoded word in the opcode table: 9 or 19. -/
def CodeWord.width : CodeWord → Nat
  | .command _ => 9
  | .serial _ => 19

end Sys2Proof
end

