-- ==== Sys2Proof/Machine/Serializer.lean ====
section
/-! DEFINITION. SER, the Register Serializer: the meanings of the two register words, each the start of one TRANSMIT
(42_serializer.md R91, R92). The phases that follow are the sequencer's (R93-R99). -/

namespace Sys2Proof.Machine

/-- FRAME_R (41_reference_selector.md R85, R88): start the frame that carries this R word. Any word of this form is
sent bit for bit (42_serializer.md R106); that the block has only two of them is `Instr.wellFormed` (log 4). -/
def execFrameR (upper : BitVec 5) (div : BitVec 13) (s : State) : Host.Outcome State Fault Refusal :=
  .next (s.clearPulses.startFrame (serialWordR upper div))

/-- FRAME_N (40_divider_calculator.md R79): start the frame that carries this N word. -/
def execFrameN (b : BitVec 11) (a : BitVec 7) (s : State) : Host.Outcome State Fault Refusal :=
  .next (s.clearPulses.startFrame (serialWordN b a))

end Sys2Proof.Machine
end

