-- ==== Sys2Proof/Machine/Dispatch.lean ====
section
/-! DEFINITION. One arm per instruction. A meaning is the whole edge at which the instruction takes effect, the pulses'
default included; whether the block is ready for it is the sequencer's question (log 15). -/

namespace Sys2Proof.Machine

def exec (i : Instr) (s : State) : Host.Outcome State Fault Refusal :=
  match i with
  | .tune ch => Sys2Proof.Machine.execTune ch s
  | .init => Sys2Proof.Machine.execInit s
  | .frameR upper div => Sys2Proof.Machine.execFrameR upper div s
  | .frameN b a => Sys2Proof.Machine.execFrameN b a s

end Sys2Proof.Machine
end

