-- ==== Sys2Proof/Machine/Sequencer.lean ====
section
/-! DEFINITION. SEQ, the command sequencer: the step function of 43_commands.md R121, and where it takes its next
instruction from. -/

namespace Sys2Proof.Machine

/-- The exit action of a phase whose timer has run out (43_commands.md R121, the `case` on the phase). The word of a
TUNE's second frame is taken from `n_word` and run as the instruction it decodes to. -/
def phaseEnd (s : State) : Host.Outcome State Fault Refusal :=
  match s.phase with
  | .idle => .next s
  | .setup => .next s.enterData
  | .data => .next s.raiseClock
  | .clkh => .next s.lowerClock
  | .clkl => .next (if 0 < s.bitsLeft then s.enterData else s.raiseLatch)
  | .leh => .next s.lowerLatch
  | .lel =>
    if s.op = .tune ∧ s.frame = .frR then exec (decodeSerial s.nWord) s.secondFrame
    else .next s.finishCommand

/-- One rising edge with the ports `p` (43_commands.md R121): reset first, then acceptance (R111) in IDLE, then the
running frame, in which the ports are not read (R120). -/
def clockEdge (p : Input) (s : State) : Host.Outcome State Fault Refusal :=
  if p.rst then .next s.applyReset
  else if s.phase = .idle then
    if p.cmdValid then exec (decodeCommand p.cmd) s else .next s.clearPulses
  else if 0 < s.timer then .next s.clearPulses.countDown
  else phaseEnd s.clearPulses

/-- One step of a conforming build; any other build is refused (93_implementation_defined.md U11; log 9). -/
def clockStep (s : State) : Host.Outcome State Fault Refusal :=
  if buildConforms s.cfg then clockEdge s.ports s.dropInput else .refused .nonconformingBuild

/-- The state in which the host offers the command word `w` to the idle block in this cycle (43_commands.md R111). -/
def State.placeCommand (w : CommandWord) (s : State) : State :=
  { s with phase := .idle, inputs := Input.offer w :: s.inputs.tail }

/-- The state at the end of a TUNE's first frame, with `w` in `n_word`, the one place from which the sequencer takes a
serial word (43_commands.md R121, phase LEL; log 5). -/
def State.placeSerial (w : SerialWord) (s : State) : State :=
  { s with
    phase := .lel, timer := 0, op := .tune, frame := .frR, nWord := w,
    inputs := Input.quiet :: s.inputs.tail }

/-- Placing a word of the opcode table where the next step takes its instruction from: its 9 bits on the command port,
or its 19 bits in `n_word`. A word that is no instruction changes nothing. -/
def State.placeTableWord (nbits w : Nat) (s : State) : State :=
  match decodeTableWord nbits w with
  | some (.tune _) => s.placeCommand (BitVec.ofNat 9 w)
  | some .init => s.placeCommand (BitVec.ofNat 9 w)
  | some (.frameR _ _) => s.placeSerial (BitVec.ofNat 19 w)
  | some (.frameN _ _) => s.placeSerial (BitVec.ofNat 19 w)
  | none => s

end Sys2Proof.Machine
end

