-- ==== Sys2Proof/Machine/Step.lean ====
section
/-! DEFINITION. The step: one rising edge of `clk`. -/

namespace Sys2Proof.Machine

/-- The block's step function (43_commands.md R121). -/
def step (s : State) : Host.Outcome State Fault Refusal := clockStep s

/-- `s` with the table's word placed where the next step takes its instruction from (log 5). -/
def State.withFetchWord (s : State) (nbits w : Nat) : State := s.placeTableWord nbits w

end Sys2Proof.Machine
end

