-- ==== Sys2Proof/Machine/Assembler.lean ====
section
/-! DEFINITION. The assembler (30_encoding.md R67): one command per line. White space, which R67 does not describe, is
log 13. -/

namespace Sys2Proof.Machine

/-- Why a line does not assemble. -/
inductive AsmError where
  /-- Neither `TUNE <ch>` nor `INIT`. -/
  | notACommand
  /-- The operand of TUNE is no decimal or `0x` hexadecimal number. -/
  | notANumber
  /-- The operand of TUNE is above 255. -/
  | channelTooLarge (n : Nat)
  deriving DecidableEq, Repr

/-- The value of a decimal or hexadecimal digit. -/
def digitValue (c : Char) : Option Nat :=
  let n := c.toLower.toNat
  if 48 ≤ n && n ≤ 57 then some (n - 48)
  else if 97 ≤ n && n ≤ 102 then some (n - 87)
  else none

/-- The number that digits write in a base, after `acc`. -/
def digitsValue (base : Nat) : Nat → List Char → Option Nat
  | acc, [] => some acc
  | acc, c :: rest =>
    match digitValue c with
    | some d => if d < base then digitsValue base (base * acc + d) rest else none
    | none => none

/-- A decimal number, or a hexadecimal one after `0x`. -/
def numberValue : List Char → Option Nat
  | [] => none
  | '0' :: 'x' :: [] => none
  | '0' :: 'x' :: digits => digitsValue 16 0 digits
  | digits => digitsValue 10 0 digits

/-- Space, tab and carriage return separate (log 13). -/
def isBlank (c : Char) : Bool := c == ' ' || c == '\t' || c == '\r'

/-- The words of a line up to a comment: `;` ends the line. `word` is the word being read, reversed. -/
def lineWords : List Char → List Char → List (List Char)
  | word, [] => if word.isEmpty then [] else [word.reverse]
  | word, c :: rest =>
    if c == ';' then (if word.isEmpty then [] else [word.reverse])
    else if isBlank c then (if word.isEmpty then lineWords [] rest else word.reverse :: lineWords [] rest)
    else lineWords (c :: word) rest

/-- One line (30_encoding.md R67): nothing, `TUNE <ch>` or `INIT`. -/
def assembleLine (line : List Char) : Except AsmError (Option CommandWord) :=
  match lineWords [] line with
  | [] => .ok none
  | [mnemonic] =>
    if mnemonic.map Char.toLower = ['i', 'n', 'i', 't'] then .ok (some 0x100#9) else .error .notACommand
  | [mnemonic, operand] =>
    if mnemonic.map Char.toLower = ['t', 'u', 'n', 'e'] then
      match numberValue operand with
      | some n => if n ≤ 255 then .ok (some (BitVec.ofNat 9 n)) else .error (.channelTooLarge n)
      | none => .error .notANumber
    else .error .notACommand
  | _ => .error .notACommand

/-- A program: the command words of its lines, in order (30_encoding.md R68). -/
def assemble : List (List Char) → Except AsmError (List CommandWord)
  | [] => .ok []
  | line :: rest =>
    match assembleLine line, assemble rest with
    | .ok (some w), .ok ws => .ok (w :: ws)
    | .ok none, .ok ws => .ok ws
    | .error e, _ => .error e
    | .ok _, .error e => .error e

end Sys2Proof.Machine
end

