-- ==== Sys2Proof/Machine/Bus.lean ====
section
/-! DEFINITION. What the outside sees: the outputs (10_state.md R16), the record of a run (43_commands.md R123), the
waveform of a frame (42_serializer.md R100), and the reader of the bus (30_encoding.md R63). -/

namespace Sys2Proof.Machine

/-- The three bus lines in one cycle, in the order of 42_serializer.md R100. -/
structure Lines where
  clk : Bit
  data : Bit
  le : Bit
  deriving DecidableEq, Repr

/-- The bus lines of a state (10_state.md R26). -/
def State.lines (s : State) : Lines := ⟨s.pllClk, s.pllData, s.pllLe⟩

/-- One cycle's outputs (43_commands.md R123). -/
structure Outputs where
  lines : Lines
  busy : Bit
  done : Bit
  errInvalid : Bit
  dial : BitVec 16
  refMode : Bit
  deriving DecidableEq, Repr

/-- The output ports of a state (10_state.md R16). -/
def State.outputs (s : State) : Outputs :=
  { lines := s.lines, busy := s.busy, done := s.done, errInvalid := s.errInvalid
    dial := s.dial, refMode := s.refMode }

/-- What `view` shows in each of the `k` cycles from `s` on; it ends early where the machine stops. -/
def record {α : Type} (view : State → α) : Nat → State → List α
  | 0, _ => []
  | k + 1, s =>
    view s :: match step s with
      | .next t => record view k t
      | .fault _ => []
      | .refused _ => []

/-- The observation of a run (43_commands.md R123). -/
def observation (k : Nat) (s : State) : List Outputs := record State.outputs k s

/-- One bit of a frame: its DATA, CLKH and CLKL phases (42_serializer.md R100). -/
def bitWave (c : Config) (b : Bit) : List Lines :=
  List.replicate c.nDsu ⟨false, b, false⟩ ++
  (List.replicate c.nCh ⟨true, b, false⟩ ++ List.replicate c.nCl ⟨false, b, false⟩)

/-- The last `j` bits of a frame that carries `w`, bit `j - 1` first (42_serializer.md R100, R102). -/
def bitWaves (c : Config) (w : SerialWord) : Nat → List Lines
  | 0 => []
  | j + 1 => bitWave c (w.getLsbD j) ++ bitWaves c w j

/-- The waveform of a frame that carries `w`, where `pll_data` held `p` before it (42_serializer.md R100). -/
def waveform (c : Config) (w : SerialWord) (p : Bit) : List Lines :=
  List.replicate c.nPre ⟨false, p, false⟩ ++
  (bitWaves c w 19 ++
  (List.replicate c.nLeh ⟨false, w.getLsbD 0, true⟩ ++ List.replicate c.nLel ⟨false, w.getLsbD 0, false⟩))

/-- A reader of the bus (30_encoding.md R63): the levels of CLOCK and LATCH_ENABLE it saw last, the samples it took at
rising clock edges, newest first, and the words that were latched, newest first. -/
structure BusReader where
  clk : Bit
  le : Bit
  samples : List Bit
  words : List SerialWord
  deriving DecidableEq, Repr

/-- A reader that has seen the idle-low lines and nothing else. -/
def BusReader.start : BusReader := ⟨false, false, [], []⟩

/-- The number whose bits are listed, least significant first. -/
def numberOfBits : List Bit → Nat
  | [] => 0
  | b :: rest => b.toNat + 2 * numberOfBits rest

/-- The word of the last 19 samples: the newest is bit 0 and the oldest bit 18 (30_encoding.md R63). Fewer than 19
samples make no word (log 12). -/
def wordOfSamples (samples : List Bit) : Option SerialWord :=
  if 19 ≤ samples.length then some (BitVec.ofNat 19 (numberOfBits (samples.take 19))) else none

/-- The reader sees one cycle: a rising CLOCK takes a sample, a rising LATCH_ENABLE latches the word
(20_memory.md R43, R44; log 12). -/
def BusReader.see (r : BusReader) (l : Lines) : BusReader :=
  let samples := if !r.clk && l.clk then l.data :: r.samples else r.samples
  let words := if !r.le && l.le then (wordOfSamples samples).toList ++ r.words else r.words
  { clk := l.clk, le := l.le, samples := samples, words := words }

/-- The frames on the bus, oldest first (30_encoding.md R63). -/
def readFrames (ls : List Lines) : List SerialWord := (ls.foldl BusReader.see BusReader.start).words.reverse

/-- The chip register a word is committed to (20_memory.md R38). -/
def destination (w : SerialWord) : FrameId := if w.getLsbD 0 then .frR else .frN

/-- The last word committed to a chip register by the frames `ws`, oldest first; none if no frame went there
(20_memory.md R37, R43). What the chip held before, and holds after a stopped frame, is not stated (log 12). -/
def lastCommitted (d : FrameId) (ws : List SerialWord) : Option SerialWord :=
  (ws.filter (fun w => destination w == d)).getLast?

end Sys2Proof.Machine
end

