-- ==== Sys2Proof/Safety.lean ====
section
/-! DEFINITION. What holds in every state a conforming build reaches, in the terms claims use. -/

namespace Sys2Proof.Machine

/-- The word of the frame in progress: SELECT of the flag or of 0 in a first frame (43_commands.md R113, R115), `n_word`
in a TUNE's second frame (R121). -/
def wordInProgress (s : State) : SerialWord :=
  match s.frame, s.op with
  | .frN, _ => s.nWord
  | .frR, .tune => select s.refMode
  | .frR, .init => select false

/-- How many bits of the frame are still to be placed on `pll_data` in each phase (10_state.md R24). -/
def bitsLeftFits (p : Phase) (bitsLeft : Nat) : Prop :=
  match p with
  | .setup => bitsLeft = 19
  | .data | .clkh | .clkl => bitsLeft ≤ 18
  | .leh | .lel | .idle => bitsLeft = 0

/-- The block's invariant. Every clause is a rule of the spec about all states of a run. -/
structure Inv (s : State) : Prop where
  /-- The build meets the minima (42_serializer.md R98). -/
  conforms : buildConforms s.cfg = true
  /-- The timer's range (10_state.md R19). -/
  timer_lt_max : s.timer < maxPhaseCycles s.cfg
  /-- A running phase has no more cycles left than its length (42_serializer.md R99). -/
  timer_lt_phase : s.phase ≠ .idle → s.timer < phaseCycles s.cfg s.phase
  /-- `bits_left` fits the phase (10_state.md R24; 42_serializer.md R96). -/
  bits_left : bitsLeftFits s.phase s.bitsLeft
  /-- CLOCK is high in CLKH only (10_state.md R26, 42_serializer.md R93-R97). -/
  clock : s.pllClk = decide (s.phase = .clkh)
  /-- LATCH_ENABLE is high in LEH only (10_state.md R26, 42_serializer.md R93-R97). -/
  latch : s.pllLe = decide (s.phase = .leh)
  /-- `n_word` has C = 0 (40_divider_calculator.md R79, R83). -/
  n_word_c : s.nWord.getLsbD 0 = false
  /-- Only a TUNE has an N frame (43_commands.md R121). -/
  n_frame_of_tune : s.frame = .frN → s.op = .tune
  /-- `done` rises as the block returns to IDLE (10_state.md R28). -/
  done_idle : s.done = true → s.phase = .idle
  /-- `err_invalid` comes with `done`, in a validating build (10_state.md R29). -/
  err_done : s.errInvalid = true → s.done = true ∧ s.cfg.validateChannel = true
  /-- The shift register holds the bits still to be sent at its top, zeros below (42_serializer.md R92, R102). -/
  shreg : s.phase ≠ .idle →
    s.shreg = ((wordInProgress s).setWidth 24 <<< 5) <<< (19 - s.bitsLeft)
  /-- From the first DATA phase on, `pll_data` holds the bit placed last (42_serializer.md R94-R97, R102). -/
  data : s.phase ≠ .idle → s.phase ≠ .setup →
    s.pllData = (wordInProgress s).getLsbD s.bitsLeft

end Sys2Proof.Machine
end

