-- ==== Sys2Proof/Certificates/Slice0/Obligations.lean ====
section
/-! DEFINITION. The statements about the block, for the provers. Each docstring names the rules of spec/ it states or
rests on. A statement about a free value (log 3) holds for every value of it. -/

open Sys2Proof Sys2Proof.Machine

/-! ### Encodings -/

/-- The command words of 30_encoding.md R70 and their encodings, the two R words of R59 and the N word of channel 1
(95_test_vectors.md V1), with their transfer buffers (20_memory.md R39; 41_reference_selector.md R87). -/
def Obligations.ExampleWords : Prop :=
  decodeCommand 0b000000001#9 = .tune 1 ∧ decodeCommand 0b000001011#9 = .tune 11 ∧
  decodeCommand 0b000001100#9 = .tune 12 ∧ decodeCommand 0b010111110#9 = .tune 190 ∧
  decodeCommand 0b000000000#9 = .tune 0 ∧ decodeCommand 0b011111111#9 = .tune 255 ∧
  decodeCommand 0b100000000#9 = .init ∧
  encode (.tune 190) = .command 0x0BE ∧ encode .init = .command 0x100 ∧
  decodeSerial 0b0001000000001010001#19 = .frameR 0b00010 40 ∧
  decodeSerial 0b0001000000010100001#19 = .frameR 0b00010 80 ∧
  decodeSerial 0b0000001101100100010#19 = .frameN 27 17 ∧
  decodeBytes [0x51, 0x80, 0x00] = .ok (.frameR 0b00010 40) ∧
  decodeBytes [0xA1, 0x80, 0x00] = .ok (.frameR 0b00010 80) ∧
  decodeBytes [0x22, 0x1B, 0x00] = .ok (.frameN 27 17)

/-- 30_encoding.md R54: bit 8 tells TUNE from INIT, the channel is bits 7:0, every word is a command, and all words with
bit 8 set act the same. -/
def Obligations.CommandDecodeTotal : Prop :=
  ∀ w : CommandWord,
    (w.getLsbD 8 = false → decodeCommand w = .tune (w.setWidth 8)) ∧
    (w.getLsbD 8 = true → decodeCommand w = .init ∧ ∀ s : State, exec (decodeCommand w) s = exec (decodeCommand 0x100) s)

/-- Every instruction, with every operand, is what its word decodes to on its interface (30_encoding.md R53, R57, R60); and
what the bytes that carry the word, and its number in the opcode table, decode to. A frame's three bytes are the transfer
buffer (20_memory.md R39). A command's two bytes, through which its table number is read too, are the MODEL'S CHOICE (log 6):
the port is 9 bits wide and the spec gives it no bytes. -/
def Obligations.EncodeDecodeRoundTrip : Prop :=
  ∀ i : Instr,
    decode (encode i) = i ∧ decodeBytes (encodeBytes (encode i)) = .ok i ∧
    decodeTableWord (encode i).width (encode i).number = some i

/-- Every 19-bit word is the encoding of exactly the frame it decodes to, and its C bit tells R from N
(30_encoding.md R63; 20_memory.md R38). -/
def Obligations.SerialWordsReencode : Prop :=
  ∀ w : SerialWord,
    encode (decodeSerial w) = .serial w ∧
    ((∃ upper div, decodeSerial w = .frameR upper div) ↔ destination w = .frR) ∧
    ((∃ b a, decodeSerial w = .frameN b a) ↔ destination w = .frN)

/-- 20_memory.md R39: the transfer buffer is little-endian, and a word splits into it. -/
def Obligations.TransferBufferLittleEndian : Prop :=
  (∀ byte0 byte1 byte2 : Byte,
    (bufferValue byte0 byte1 byte2).toNat =
      byte0.toNat ||| (byte1.toNat <<< 8) ||| (byte2.toNat <<< 16)) ∧
  (∀ (w : SerialWord), ∃ byte0 byte1 byte2 : Byte,
    encodeBytes (.serial w) = [byte0, byte1, byte2] ∧
    byte0.toNat = w.toNat % 256 ∧ byte1.toNat = w.toNat / 256 % 256 ∧ byte2.toNat = w.toNat / 65536 ∧
    bufferValue byte0 byte1 byte2 = w.setWidth 24)

/-- Bits 23:19 of a transfer buffer are padding: they do not reach the frame (30_encoding.md R61; 20_memory.md R41). -/
def Obligations.BufferPaddingIgnored : Prop :=
  ∀ byte0 byte1 byte2 : Byte,
    decodeBytes [byte0, byte1, byte2] = decodeBytes [byte0, byte1, byte2 &&& 0x07]

/-- The well-formed R frames are exactly the two constants (30_encoding.md R59, R60, R65), and they are what SELECT
answers (41_reference_selector.md R85). -/
def Obligations.RWordsAreTheConstants : Prop :=
  (∀ upper div, (Instr.frameR upper div).wellFormed = true ↔
    (encode (.frameR upper div) = .serial 0x08051 ∨ encode (.frameR upper div) = .serial 0x080A1)) ∧
  (∀ upper div, (Instr.frameR upper div).wellFormed = true ↔
    ∃ r, decodeSerial (select r) = .frameR upper div)

/-- `TUNE`, in any case, and a number from 0 to 255, in decimal or as `0x` hexadecimal, assemble to the channel's command
word; every larger number is rejected by name (30_encoding.md R67). -/
def Obligations.AssembleTune : Prop :=
  ∀ (mnemonic : List Char) (n : Nat), mnemonic.map Char.toLower = ['t', 'u', 'n', 'e'] →
    let result := if n ≤ 255 then .ok (some (BitVec.ofNat 9 n)) else .error (.channelTooLarge n)
    assembleLine (mnemonic ++ ' ' :: Nat.toDigits 10 n) = result ∧
    assembleLine (mnemonic ++ ' ' :: '0' :: 'x' :: Nat.toDigits 16 n) = result

/-- `INIT`, in any case, assembles to 0x100 (30_encoding.md R67). -/
def Obligations.AssembleInit : Prop :=
  ∀ mnemonic : List Char, mnemonic.map Char.toLower = ['i', 'n', 'i', 't'] →
    assembleLine mnemonic = .ok (some 0x100)

/-- From `;` to the end of the line is a comment: whatever stands there, the line assembles as what stands before it
(30_encoding.md R67). -/
def Obligations.AssembleIgnoresComments : Prop :=
  ∀ line comment : List Char, assembleLine (line ++ ';' :: comment) = assembleLine line

/-- A line whose first word is neither `TUNE` nor `INIT`, in whatever case, is rejected, alone or before a space and any
text (30_encoding.md R67; that a tab and a carriage return separate words too is log 13). -/
def Obligations.AssembleRejectsOtherMnemonics : Prop :=
  ∀ word text : List Char, word ≠ [] → (∀ c ∈ word, c ≠ ';' ∧ c ≠ ' ' ∧ c ≠ '\t' ∧ c ≠ '\r') →
    word.map Char.toLower ≠ ['t', 'u', 'n', 'e'] → word.map Char.toLower ≠ ['i', 'n', 'i', 't'] →
    assembleLine word = .error .notACommand ∧ assembleLine (word ++ ' ' :: text) = .error .notACommand

/-! ### What an instruction leaves -/

/-- TUNE with a channel in range, in every build and state (40_divider_calculator.md R72-R79, R84; 43_commands.md R113):
the flag, the N word, the dial value, the first frame with SELECT(r) in the shift register, and nothing else. -/
def Obligations.TuneInRange : Prop :=
  ∀ (ch : BitVec 8) (s : State), 1 ≤ ch.toNat → ch.toNat ≤ 190 →
    let f := 880 + ch.toNat
    let r := decide (f / 32 < f % 32) || (s.cfg.correctOnTie && decide (f / 32 = f % 32))
    let g := if r then 2 * f else f
    exec (.tune ch) s = .next { s with
      refMode := r, nWord := BitVec.ofNat 19 (256 * (g / 32) + 2 * (g % 32)), dial := BitVec.ofNat 16 f
      op := .tune, frame := .frR, phase := .setup, timer := s.cfg.nPre - 1
      shreg := if r then 0x101420#24 else 0x100A20#24, bitsLeft := 19, pllClk := false
      done := false, errInvalid := false }

/-- 40_divider_calculator.md R83: an out-of-range TUNE in a build that does not validate runs with three drawn results,
C = 0 in its N word, and SELECT of the drawn bit in its first frame; the draw counter moves on and nothing else changes.
The draws are the free values of log 3: this holds whatever they are. -/
def Obligations.TuneDrawn : Prop :=
  ∀ (ch : BitVec 8) (s : State), (ch.toNat = 0 ∨ 191 ≤ ch.toNat) → s.cfg.validateChannel = false →
    ∃ (r : Bit) (upper : BitVec 18) (d : BitVec 16),
      r = Config.drawRefMode s.draws ∧ upper = Config.drawNUpper s.draws ∧ d = Config.drawDial s.draws ∧
      exec (.tune ch) s = .next { s with
        draws := s.draws + 1, refMode := r, nWord := upper ++ 0#1, dial := d
        op := .tune, frame := .frR, phase := .setup, timer := s.cfg.nPre - 1
        shreg := if r then 0x101420#24 else 0x100A20#24, bitsLeft := 19, pllClk := false
        done := false, errInvalid := false }

/-- 43_commands.md R117 (60_exceptions.md R128, R132): a validating build rejects an out-of-range TUNE with the two pulses
and changes nothing else, in every state; offered to the idle block, it leaves `busy` at 0, and with no command in the next
cycle both pulses are over after it. -/
def Obligations.TuneRejected : Prop :=
  ∀ (ch : BitVec 8) (s : State), (ch.toNat = 0 ∨ 191 ≤ ch.toNat) → s.cfg.validateChannel = true →
    exec (.tune ch) s = .next { s with done := true, errInvalid := true } ∧
    (∀ (q : Input) (rest : List Input), buildConforms s.cfg = true → s.phase = .idle →
      s.inputs = Input.offer (ch.setWidth 9) :: q :: rest → q.rst = false → q.cmdValid = false →
      ∃ t u, step s = .next t ∧ t = { s with inputs := q :: rest, done := true, errInvalid := true } ∧ t.busy = false ∧
        step t = .next u ∧ u.done = false ∧ u.errInvalid = false ∧ u.busy = false)

/-- INIT, in every build and state (43_commands.md R115): one R frame with `R_LOW`, whatever the flag holds; the flag, the
dial value and `n_word` stay. -/
def Obligations.InitStartsLowReference : Prop :=
  ∀ s : State, exec .init s = .next { s with
    op := .init, frame := .frR, phase := .setup, timer := s.cfg.nPre - 1
    shreg := 0x100A20#24, bitsLeft := 19, pllClk := false, done := false, errInvalid := false }

/-- FRAME_R and FRAME_N, in every state and with every operand: `shreg[23:5]` is the word, `shreg[4:0]` is 0, `bits_left` is
19, SETUP is entered with CLOCK low; `pll_le`, `pll_data` and all else stay. What is written is `start_frame` of
42_serializer.md R92; that these two rows of the table are instructions that mean it, FRAME_R for words other than the two R
constants as well, is the MODEL'S DEDUCTION (log 4). -/
def Obligations.FramesStart : Prop :=
  (∀ (upper : BitVec 5) (div : BitVec 13) (s : State), exec (.frameR upper div) s = .next { s with
    phase := .setup, timer := s.cfg.nPre - 1, shreg := upper ++ (div ++ (1#1 ++ 0#5)), bitsLeft := 19
    pllClk := false, done := false, errInvalid := false }) ∧
  (∀ (b : BitVec 11) (a : BitVec 7) (s : State), exec (.frameN b a) s = .next { s with
    phase := .setup, timer := s.cfg.nPre - 1, shreg := b ++ (a ++ (0#1 ++ 0#5)), bitsLeft := 19
    pllClk := false, done := false, errInvalid := false })

/-- Every command that is not rejected starts with the R frame of SELECT (41_reference_selector.md R88, R89): INIT is
FRAME_R of `R_LOW`, and TUNE is FRAME_R of SELECT of the flag it leaves (what FRAME_R means is log 4). -/
def Obligations.CommandsBeginWithRFrame : Prop :=
  (∀ s : State, exec .init s = exec (decodeSerial (select false)) { s with op := .init, frame := .frR }) ∧
  (∀ (ch : BitVec 8) (s : State),
    ((1 ≤ ch.toNat ∧ ch.toNat ≤ 190) ∨ s.cfg.validateChannel = false) →
    ∃ t, exec (.tune ch) s = .next t ∧ exec (decodeSerial (select t.refMode)) t = .next t)

/-- 40_divider_calculator.md R82, read from the state TUNE leaves: the corrected channels and their pairs, the tie
channels, the ranges of B and A, the dial value, the unpacked pair, and the same for a build with `CORRECT_ON_TIE`. -/
def Obligations.DividerPairs : Prop :=
  ∀ (ch : BitVec 8) (s : State), 1 ≤ ch.toNat → ch.toNat ≤ 190 →
    ∃ t, exec (.tune ch) s = .next t ∧
      let c := ch.toNat
      let b := unpackB t.nWord
      let a := unpackA t.nWord
      let ties := [(11, 27), (44, 28), (77, 29), (110, 30), (143, 31)]
      let corrected := [(12, 55, 24), (13, 55, 26), (14, 55, 28), (15, 55, 30), (45, 57, 26), (46, 57, 28), (47, 57, 30),
        (78, 59, 28), (79, 59, 30), (111, 61, 30)]
      let tiesCorrected := [(11, 55, 22), (44, 57, 24), (77, 59, 26), (110, 61, 28), (143, 63, 30)]
      b = (compute s.cfg.correctOnTie ch).b ∧ a = (compute s.cfg.correctOnTie ch).a ∧
      t.dial.toNat = 880 + c ∧
      (s.cfg.correctOnTie = false →
        (t.refMode = true ↔ c ∈ corrected.map Prod.fst) ∧
        (t.refMode = true → (c, b, a) ∈ corrected) ∧
        (a = b ↔ c ∈ ties.map Prod.fst) ∧ (a = b → (c, b) ∈ ties) ∧ (a = b ↔ t.refMode = false ∧ 880 + c = 33 * b) ∧
        a ≤ b ∧ 27 ≤ b ∧ b ≤ 61 ∧ a ≤ 31 ∧
        (t.refMode = false → b ≤ 33) ∧ (t.refMode = true → 55 ≤ b ∧ a % 2 = 0) ∧
        (a = 0 ↔ c ∈ [16, 48, 80, 112, 144, 176]) ∧ (a = 0 ↔ (880 + c) % 32 = 0)) ∧
      (s.cfg.correctOnTie = true →
        a < b ∧
        (t.refMode = true ↔ c ∈ corrected.map Prod.fst ∨ c ∈ ties.map Prod.fst) ∧
        (t.refMode = true → (c, b, a) ∈ corrected ∨ (c, b, a) ∈ tiesCorrected))

/-- 43_commands.md R125: consecutive channels give dial values that rise by exactly 1, from any two states. -/
def Obligations.ConsecutiveDials : Prop :=
  ∀ (ch : BitVec 8) (s s' : State), 1 ≤ ch.toNat → ch.toNat ≤ 189 →
    ∃ t t', exec (.tune ch) s = .next t ∧ exec (.tune (ch + 1)) s' = .next t' ∧
      t'.dial.toNat = t.dial.toNat + 1 ∧ t.dial.toNat = 880 + ch.toNat

/-- An in-range TUNE has no history dependence (43_commands.md R124; 40_divider_calculator.md R73): what it stores and the
frame it starts depend on the channel and on `CORRECT_ON_TIE` only. -/
def Obligations.TuneForgetsHistory : Prop :=
  ∀ (ch : BitVec 8) (s s' : State), 1 ≤ ch.toNat → ch.toNat ≤ 190 → s.cfg.correctOnTie = s'.cfg.correctOnTie →
    ∃ t t', exec (.tune ch) s = .next t ∧ exec (.tune ch) s' = .next t' ∧
      t.refMode = t'.refMode ∧ t.nWord = t'.nWord ∧ t.dial = t'.dial ∧ t.shreg = t'.shreg ∧
      t.bitsLeft = t'.bitsLeft ∧ t.op = t'.op ∧ t.frame = t'.frame ∧ t.phase = t'.phase

/-! ### What a step does -/

/-- A step of the idle block runs the command on its port (43_commands.md R111), in every conforming build; the only thing
around the meaning is that the ports move on to the next cycle. -/
def Obligations.StepRunsCommand : Prop :=
  ∀ (s : State) (p : Input) (rest : List Input) (i : Instr),
    buildConforms s.cfg = true → s.phase = .idle → s.inputs = p :: rest →
    p.rst = false → p.cmdValid = true → decodeCommand p.cmd = i →
    step s = exec i { s with inputs := rest }

/-- A step at the end of a TUNE's first frame runs the word in `n_word` (43_commands.md R121, R113): around the meaning,
`frame` becomes FR_N and the ports move on. The next frame starts at this very edge, with no IDLE cycle
(42_serializer.md R104). That the word is run as an instruction is log 4. -/
def Obligations.StepRunsSecondFrame : Prop :=
  ∀ (s : State) (i : Instr),
    buildConforms s.cfg = true → s.ports.rst = false → s.phase = .lel → s.timer = 0 → s.op = .tune → s.frame = .frR →
    decodeSerial s.nWord = i →
    step s = exec i { s with frame := .frN, inputs := s.inputs.tail }

/-- 43_commands.md R120: while a frame runs, `cmd_valid` and `cmd` change nothing. -/
def Obligations.BusyBlockIgnoresCommands : Prop :=
  ∀ (s : State) (p : Input) (rest : List Input) (valid : Bit) (w : CommandWord),
    s.phase ≠ .idle →
    step { s with inputs := p :: rest } = step { s with inputs := { p with cmdValid := valid, cmd := w } :: rest }

/-- 70_reset_and_hazards.md R141: a reset edge gives every element of 10_state.md R19 its reset value, in every state,
whatever the phase and whatever the ports offer; the outputs are then all 0. -/
def Obligations.ResetEdge : Prop :=
  ∀ s : State, buildConforms s.cfg = true → s.ports.rst = true →
    ∃ t, step s = .next t ∧
      t.phase = .idle ∧ t.op = .tune ∧ t.frame = .frR ∧ t.refMode = false ∧ t.nWord = 0 ∧ t.shreg = 0 ∧
      t.bitsLeft = 0 ∧ t.timer = 0 ∧ t.pllClk = false ∧ t.pllLe = false ∧ t.pllData = false ∧ t.dial = 0 ∧
      t.done = false ∧ t.errInvalid = false ∧
      t.outputs = { lines := ⟨false, false, false⟩, busy := false, done := false, errInvalid := false
                    dial := 0, refMode := false }

/-- The idle block with no command offered keeps everything but the pulses (10_state.md R35; 60_exceptions.md R140). -/
def Obligations.IdleBlockWaits : Prop :=
  ∀ s : State, buildConforms s.cfg = true → s.phase = .idle → s.ports.rst = false → s.ports.cmdValid = false →
    step s = .next { s with inputs := s.inputs.tail, done := false, errInvalid := false }

/-- Inside a phase only the timer moves (42_serializer.md R99; the pulses' default is 43_commands.md R118). -/
def Obligations.TimerCountsDown : Prop :=
  ∀ s : State, buildConforms s.cfg = true → s.phase ≠ .idle → s.ports.rst = false → 0 < s.timer →
    step s = .next { s with inputs := s.inputs.tail, timer := s.timer - 1, done := false, errInvalid := false }

/-- The end of each phase of a frame but the last (42_serializer.md R93-R97): what is written and how long the next phase
is to last. A next bit is placed only while one is left; that is every SETUP of a run (`Inv.bits_left`). -/
def Obligations.PhaseEnds : Prop :=
  ∀ s : State, buildConforms s.cfg = true → s.ports.rst = false → s.timer = 0 →
    let u := { s with inputs := s.inputs.tail, done := false, errInvalid := false }
    ((s.phase = .setup ∨ s.phase = .clkl) → 0 < s.bitsLeft →
      step s = .next { u with
        pllData := s.shreg.msb, shreg := s.shreg.extractLsb' 0 23 ++ 0#1, bitsLeft := s.bitsLeft - 1
        phase := .data, timer := s.cfg.nDsu - 1 }) ∧
    (s.phase = .data → step s = .next { u with pllClk := true, phase := .clkh, timer := s.cfg.nCh - 1 }) ∧
    (s.phase = .clkh → step s = .next { u with pllClk := false, phase := .clkl, timer := s.cfg.nCl - 1 }) ∧
    (s.phase = .clkl → s.bitsLeft = 0 →
      step s = .next { u with pllLe := true, phase := .leh, timer := s.cfg.nLeh - 1 }) ∧
    (s.phase = .leh → step s = .next { u with pllLe := false, phase := .lel, timer := s.cfg.nLel - 1 })

/-- A command ends when the LEL phase of its last frame ends (43_commands.md R114, R115): INIT after its R frame, TUNE after
its N frame; the flag, the dial value and the lines stay. -/
def Obligations.CommandEnds : Prop :=
  ∀ s : State, buildConforms s.cfg = true → s.ports.rst = false → s.phase = .lel → s.timer = 0 →
    (s.op = .init ∨ s.frame = .frN) →
    step s = .next { s with inputs := s.inputs.tail, phase := .idle, done := true, errInvalid := false }

/-- 43_commands.md R118: every edge that does not set a pulse clears it. Exactly the end of a command's last LEL phase and
a rejected TUNE set `done`, and exactly a rejected TUNE sets `err_invalid`. -/
def Obligations.PulsesAreSetOnlyByTheirEvents : Prop :=
  ∀ s t : State, step s = .next t →
    let rejected := s.ports.rst = false ∧ s.phase = .idle ∧ s.ports.cmdValid = true ∧ s.ports.cmd.getLsbD 8 = false ∧
      s.cfg.validateChannel = true ∧ ¬(1 ≤ (s.ports.cmd.setWidth 8).toNat ∧ (s.ports.cmd.setWidth 8).toNat ≤ 190)
    let ended := s.ports.rst = false ∧ s.phase = .lel ∧ s.timer = 0 ∧ ¬(s.op = .tune ∧ s.frame = .frR)
    (t.done = true ↔ rejected ∨ ended) ∧ (t.errInvalid = true ↔ rejected)

/-- The host sees acceptance in the next cycle (43_commands.md R112): after a cycle in which the block was idle with no
reset, `busy` is 1 exactly if a command was offered and not rejected, and `done` is 1 with `busy` at 0 exactly if it was
rejected. -/
def Obligations.AcceptanceIsVisible : Prop :=
  ∀ s t : State, step s = .next t → s.phase = .idle → s.ports.rst = false →
    let rejects := s.ports.cmd.getLsbD 8 = false ∧ s.cfg.validateChannel = true ∧
      ¬(1 ≤ (s.ports.cmd.setWidth 8).toNat ∧ (s.ports.cmd.setWidth 8).toNat ≤ 190)
    (t.busy = true ↔ s.ports.cmdValid = true ∧ ¬rejects) ∧
    (t.done = true ∧ t.busy = false ↔ s.ports.cmdValid = true ∧ rejects)

/-- Only reset and an accepted TUNE that is not rejected write the flag, `n_word` and the dial value; INIT, rejected TUNEs,
ignored commands, running frames and idle cycles leave them (43_commands.md R122; 10_state.md R21, R22, R27). -/
def Obligations.OnlyTuneAndResetStoreResults : Prop :=
  ∀ s t : State, step s = .next t → s.ports.rst = false →
    ¬(s.phase = .idle ∧ s.ports.cmdValid = true ∧ s.ports.cmd.getLsbD 8 = false ∧
      (s.cfg.validateChannel = false ∨
        (1 ≤ (s.ports.cmd.setWidth 8).toNat ∧ (s.ports.cmd.setWidth 8).toNat ≤ 190))) →
    t.refMode = s.refMode ∧ t.nWord = s.nWord ∧ t.dial = s.dial ∧ t.draws = s.draws

/-- DATA changes only where a DATA phase is entered, and at reset (10_state.md R26). -/
def Obligations.DataLineHolds : Prop :=
  ∀ s t : State, step s = .next t → t.pllData ≠ s.pllData →
    s.ports.rst = true ∨ (t.phase = .data ∧ s.phase ≠ .data ∧ t.pllData = s.shreg.msb)

/-- No step changes the build (10_state.md R33), and each consumes one cycle of the ports (log 1, 2). -/
def Obligations.BuildIsFixed : Prop :=
  ∀ s t : State, step s = .next t → t.cfg = s.cfg ∧ t.inputs = s.inputs.tail

/-- 42_serializer.md R98: a build runs exactly when its phases meet the minima, `n ≥ max(1, ceil(us × 10⁻⁶ × F_CLK_HZ))`
(as exact inequalities between naturals; the clock frequency is positive, 00_scope.md R7), and the reference configuration
meets every bound with equality. A build that does not is refused by name (93_implementation_defined.md U11). -/
def Obligations.ConformingBuildsRun : Prop :=
  let meets := fun (us f n : Nat) => 1 ≤ n ∧ us * f ≤ n * 1000000
  (∀ s : State,
    ((∃ t, step s = .next t) ↔
      0 < s.cfg.fClkHz ∧ meets 2 s.cfg.fClkHz s.cfg.nPre ∧ meets 20 s.cfg.fClkHz s.cfg.nDsu ∧
      meets 10 s.cfg.fClkHz s.cfg.nCh ∧ meets 10 s.cfg.fClkHz s.cfg.nCl ∧
      meets 10 s.cfg.fClkHz s.cfg.nLeh ∧ meets 10 s.cfg.fClkHz s.cfg.nLel) ∧
    ((¬∃ t, step s = .next t) ↔ step s = .refused .nonconformingBuild)) ∧
  (let c := Config.reference
   c.nPre * 1000000 = 2 * c.fClkHz ∧ c.nDsu * 1000000 = 20 * c.fClkHz ∧ c.nCh * 1000000 = 10 * c.fClkHz ∧
   c.nCl * 1000000 = 10 * c.fClkHz ∧ c.nLeh * 1000000 = 10 * c.fClkHz ∧ c.nLel * 1000000 = 10 * c.fClkHz)

/-- In a build that does not validate nothing raises an exception: every edge has a next state and none reports an error
(60_exceptions.md R126; 10_state.md R29). INIT reports none in any build (60_exceptions.md R129). -/
def Obligations.NoExceptionByDefault : Prop :=
  (∀ s : State, buildConforms s.cfg = true → s.cfg.validateChannel = false →
    ∃ t, step s = .next t ∧ t.errInvalid = false) ∧
  (∀ s : State, buildConforms s.cfg = true → s.phase = .idle → s.ports.cmdValid = true → s.ports.cmd.getLsbD 8 = true →
    ∃ t, step s = .next t ∧ t.errInvalid = false)

/-! ### Whole-machine rules -/

/-- Every step keeps the invariant `Inv`, from every state that has it. -/
def Obligations.StepKeepsInv : Prop :=
  ∀ s t : State, Inv s → step s = .next t → Inv t

/-- The reset state of every conforming build has the invariant (10_state.md R19), the reference build among them. -/
def Obligations.ResetHasInv : Prop :=
  (∀ c : Config, buildConforms c = true → Inv (State.resetOf c)) ∧ Inv State.reset

/-- What the chip sees at the edges of CLOCK and LATCH_ENABLE (42_serializer.md R103; 20_memory.md R43): at a rising clock
edge DATA is stable, holds the next bit of the word in progress, and the latch is low; the latch rises only after the last
bit, with the clock low and DATA at the C bit; the two lines are never high together. -/
def Obligations.BusProtocol : Prop :=
  ∀ s t : State, Inv s → step s = .next t →
    (s.pllClk = false → t.pllClk = true →
      s.phase = .data ∧ s.pllLe = false ∧ t.pllLe = false ∧
      t.pllData = s.pllData ∧ t.pllData = (wordInProgress s).getLsbD s.bitsLeft ∧ s.bitsLeft ≤ 18) ∧
    (s.pllLe = false → t.pllLe = true →
      s.phase = .clkl ∧ s.bitsLeft = 0 ∧ s.pllClk = false ∧ t.pllClk = false ∧
      t.pllData = s.pllData ∧ t.pllData = (wordInProgress s).getLsbD 0) ∧
    ¬(t.pllClk = true ∧ t.pllLe = true) ∧
    (t.phase = .idle → t.pllClk = false ∧ t.pllLe = false)

/-- A first frame carries one of the two R words and goes to the R register; a second frame carries `n_word` and goes to the
N register (20_memory.md R38; 30_encoding.md R65). While a frame runs, that very word is what is sent: the bits still to be
placed stand at the top of the shift register in their order, DATA holds the bit placed last, and at the latch DATA is the C
bit of the register the frame goes to (42_serializer.md R96, R102). -/
def Obligations.FramesGoToTheirRegister : Prop :=
  ∀ s : State, Inv s →
    ∃ w : SerialWord, wordInProgress s = w ∧ destination w = s.frame ∧ (decodeSerial w).wellFormed = true ∧
      (s.frame = .frR → w = 0x08051 ∨ w = 0x080A1) ∧
      (s.frame = .frR → (w = 0x080A1 ↔ s.op = .tune ∧ s.refMode = true)) ∧
      (s.frame = .frN → w = s.nWord) ∧
      (s.phase ≠ .idle → ∀ j, j < s.bitsLeft → s.shreg.getLsbD (23 - j) = w.getLsbD (s.bitsLeft - 1 - j)) ∧
      (s.phase ≠ .idle → s.phase ≠ .setup → s.pllData = w.getLsbD s.bitsLeft) ∧
      (s.phase = .leh ∨ s.phase = .lel → s.pllData = decide (s.frame = .frR))

/-- 42_serializer.md R100: a frame started with any word, in any state with the latch low and any conforming build, puts
exactly the waveform on the lines, cycle for cycle, as long as no reset comes. -/
def Obligations.FrameWaveform : Prop :=
  ∀ (w : SerialWord) (s : State),
    buildConforms s.cfg = true → s.pllLe = false →
    (∀ p ∈ s.inputs.take (frameLength s.cfg), p.rst = false) →
    record State.lines (frameLength s.cfg) (s.startFrame w) = waveform s.cfg w s.pllData

/-- A reader of the bus recovers every word of any sequence of frames, in order, whatever DATA held before each
(30_encoding.md R63; 20_memory.md R40, R48). -/
def Obligations.FramesReadBack : Prop :=
  ∀ (c : Config) (frames : List (SerialWord × Bit)), buildConforms c = true →
    readFrames (frames.map (fun x => waveform c x.1 x.2)).flatten = frames.map Prod.fst

/-- The clock and latch timing of a frame does not depend on its word (42_serializer.md R106), and every frame ends after
exactly L cycles (R101): the last cycle of its LEL phase is cycle L of the frame, and no earlier one. -/
def Obligations.FrameTimingIgnoresTheWord : Prop :=
  ∀ (w w' : SerialWord) (s : State), buildConforms s.cfg = true →
    let l := s.cfg.nPre + 19 * (s.cfg.nDsu + s.cfg.nCh + s.cfg.nCl) + s.cfg.nLeh + s.cfg.nLel
    (∀ p ∈ s.inputs.take l, p.rst = false) →
    record (fun u => (u.pllClk, u.pllLe)) l (s.startFrame w) =
      record (fun u => (u.pllClk, u.pllLe)) l (s.startFrame w') ∧
    record (fun u => decide (u.phase = .lel ∧ u.timer = 0)) l (s.startFrame w) =
      List.replicate (l - 1) false ++ [true]

/-- What an accepted TUNE puts on the bus (43_commands.md R113, R116; 42_serializer.md R104): from its acceptance edge on,
the R frame of SELECT of the new flag and at once the N frame of the new `n_word`, and nothing of another command. -/
def Obligations.TuneBus : Prop :=
  ∀ (s : State) (p : Input) (rest : List Input),
    buildConforms s.cfg = true → s.phase = .idle → s.pllLe = false → s.inputs = p :: rest →
    p.rst = false → p.cmdValid = true → p.cmd.getLsbD 8 = false →
    (s.cfg.validateChannel = false ∨ (1 ≤ (p.cmd.setWidth 8).toNat ∧ (p.cmd.setWidth 8).toNat ≤ 190)) →
    (∀ q ∈ rest.take (2 * frameLength s.cfg), q.rst = false) →
    ∃ t, step s = .next t ∧
      record State.lines (2 * frameLength s.cfg) t =
        waveform s.cfg (select t.refMode) s.pllData ++ waveform s.cfg t.nWord true

/-- What an accepted INIT puts on the bus (43_commands.md R115): the R frame of `R_LOW`. -/
def Obligations.InitBus : Prop :=
  ∀ (s : State) (p : Input) (rest : List Input),
    buildConforms s.cfg = true → s.phase = .idle → s.pllLe = false → s.inputs = p :: rest →
    p.rst = false → p.cmdValid = true → p.cmd.getLsbD 8 = true →
    (∀ q ∈ rest.take (frameLength s.cfg), q.rst = false) →
    ∃ t, step s = .next t ∧
      record State.lines (frameLength s.cfg) t = waveform s.cfg 0x08051 s.pllData

/-- How long a command runs (43_commands.md R116, R119): `busy` for L cycles (INIT) or 2L (TUNE) from its acceptance edge,
then one cycle with `done` and without `busy`. -/
def Obligations.CommandTiming : Prop :=
  ∀ (s : State) (p : Input) (rest : List Input),
    buildConforms s.cfg = true → s.phase = .idle → s.inputs = p :: rest → p.rst = false → p.cmdValid = true →
    let n := if p.cmd.getLsbD 8 then frameLength s.cfg else 2 * frameLength s.cfg
    (p.cmd.getLsbD 8 = true ∨ s.cfg.validateChannel = false ∨
      (1 ≤ (p.cmd.setWidth 8).toNat ∧ (p.cmd.setWidth 8).toNat ≤ 190)) →
    (∀ q ∈ rest.take n, q.rst = false) →
    ∃ t, step s = .next t ∧
      record (fun u => (u.busy, u.done)) (n + 1) t = List.replicate n (true, false) ++ [(false, true)]
end

