-- ==== Sys2Proof/Laws/Assembler.lean ====
section
/-! SUPPORT. How a line falls into words: cite these lemmas instead of unfolding `lineWords`. -/

namespace Sys2Proof.Machine

/-- Letters that neither separate nor begin a comment go to the word being read. -/
theorem lineWords_letters (letters rest : List Char) (h : ∀ c ∈ letters, c ≠ ';' ∧ isBlank c = false) :
    ∀ word, lineWords word (letters ++ rest) = lineWords (letters.reverse ++ word) rest := by
  induction letters with
  | nil => intro word; rfl
  | cons c letters ih =>
    intro word
    obtain ⟨hc, hb⟩ := h c (by simp)
    simp [lineWords, hc, hb, ih (fun d hd => h d (by simp [hd]))]

/-- A separator ends the word being read. -/
theorem lineWords_blank (word rest : List Char) (h : word ≠ []) :
    lineWords word (' ' :: rest) = word.reverse :: lineWords [] rest := by
  simp [lineWords, isBlank, h]

/-- `;` ends the line: what follows it is not read (30_encoding.md R67). -/
theorem lineWords_comment (line comment : List Char) :
    ∀ word, lineWords word (line ++ ';' :: comment) = lineWords word line := by
  induction line with
  | nil => intro word; simp [lineWords]
  | cons c line ih => intro word; simp [lineWords, ih]

end Sys2Proof.Machine
end

