-- ==== Sys2Proof/Laws/State.lean ====
section
/-! SUPPORT. What every named operation on State leaves in every field, one lemma per operation and field, so that no
later proof unfolds a record update. -/

namespace Sys2Proof.Machine

variable (s : State)

/-! ### State.dropInput -/

@[simp] theorem State.dropInput_cfg : s.dropInput.cfg = s.cfg := rfl
@[simp] theorem State.dropInput_inputs : s.dropInput.inputs = s.inputs.tail := rfl
@[simp] theorem State.dropInput_draws : s.dropInput.draws = s.draws := rfl
@[simp] theorem State.dropInput_phase : s.dropInput.phase = s.phase := rfl
@[simp] theorem State.dropInput_op : s.dropInput.op = s.op := rfl
@[simp] theorem State.dropInput_frame : s.dropInput.frame = s.frame := rfl
@[simp] theorem State.dropInput_refMode : s.dropInput.refMode = s.refMode := rfl
@[simp] theorem State.dropInput_nWord : s.dropInput.nWord = s.nWord := rfl
@[simp] theorem State.dropInput_shreg : s.dropInput.shreg = s.shreg := rfl
@[simp] theorem State.dropInput_bitsLeft : s.dropInput.bitsLeft = s.bitsLeft := rfl
@[simp] theorem State.dropInput_timer : s.dropInput.timer = s.timer := rfl
@[simp] theorem State.dropInput_pllClk : s.dropInput.pllClk = s.pllClk := rfl
@[simp] theorem State.dropInput_pllLe : s.dropInput.pllLe = s.pllLe := rfl
@[simp] theorem State.dropInput_pllData : s.dropInput.pllData = s.pllData := rfl
@[simp] theorem State.dropInput_dial : s.dropInput.dial = s.dial := rfl
@[simp] theorem State.dropInput_done : s.dropInput.done = s.done := rfl
@[simp] theorem State.dropInput_errInvalid : s.dropInput.errInvalid = s.errInvalid := rfl

/-! ### State.clearPulses -/

@[simp] theorem State.clearPulses_cfg : s.clearPulses.cfg = s.cfg := rfl
@[simp] theorem State.clearPulses_inputs : s.clearPulses.inputs = s.inputs := rfl
@[simp] theorem State.clearPulses_draws : s.clearPulses.draws = s.draws := rfl
@[simp] theorem State.clearPulses_phase : s.clearPulses.phase = s.phase := rfl
@[simp] theorem State.clearPulses_op : s.clearPulses.op = s.op := rfl
@[simp] theorem State.clearPulses_frame : s.clearPulses.frame = s.frame := rfl
@[simp] theorem State.clearPulses_refMode : s.clearPulses.refMode = s.refMode := rfl
@[simp] theorem State.clearPulses_nWord : s.clearPulses.nWord = s.nWord := rfl
@[simp] theorem State.clearPulses_shreg : s.clearPulses.shreg = s.shreg := rfl
@[simp] theorem State.clearPulses_bitsLeft : s.clearPulses.bitsLeft = s.bitsLeft := rfl
@[simp] theorem State.clearPulses_timer : s.clearPulses.timer = s.timer := rfl
@[simp] theorem State.clearPulses_pllClk : s.clearPulses.pllClk = s.pllClk := rfl
@[simp] theorem State.clearPulses_pllLe : s.clearPulses.pllLe = s.pllLe := rfl
@[simp] theorem State.clearPulses_pllData : s.clearPulses.pllData = s.pllData := rfl
@[simp] theorem State.clearPulses_dial : s.clearPulses.dial = s.dial := rfl
@[simp] theorem State.clearPulses_done : s.clearPulses.done = false := rfl
@[simp] theorem State.clearPulses_errInvalid : s.clearPulses.errInvalid = false := rfl

/-! ### State.applyReset -/

@[simp] theorem State.applyReset_cfg : s.applyReset.cfg = s.cfg := rfl
@[simp] theorem State.applyReset_inputs : s.applyReset.inputs = s.inputs := rfl
@[simp] theorem State.applyReset_draws : s.applyReset.draws = s.draws := rfl
@[simp] theorem State.applyReset_phase : s.applyReset.phase = .idle := rfl
@[simp] theorem State.applyReset_op : s.applyReset.op = .tune := rfl
@[simp] theorem State.applyReset_frame : s.applyReset.frame = .frR := rfl
@[simp] theorem State.applyReset_refMode : s.applyReset.refMode = false := rfl
@[simp] theorem State.applyReset_nWord : s.applyReset.nWord = 0 := rfl
@[simp] theorem State.applyReset_shreg : s.applyReset.shreg = 0 := rfl
@[simp] theorem State.applyReset_bitsLeft : s.applyReset.bitsLeft = 0 := rfl
@[simp] theorem State.applyReset_timer : s.applyReset.timer = 0 := rfl
@[simp] theorem State.applyReset_pllClk : s.applyReset.pllClk = false := rfl
@[simp] theorem State.applyReset_pllLe : s.applyReset.pllLe = false := rfl
@[simp] theorem State.applyReset_pllData : s.applyReset.pllData = false := rfl
@[simp] theorem State.applyReset_dial : s.applyReset.dial = 0 := rfl
@[simp] theorem State.applyReset_done : s.applyReset.done = false := rfl
@[simp] theorem State.applyReset_errInvalid : s.applyReset.errInvalid = false := rfl

/-! ### State.enter -/

@[simp] theorem State.enter_cfg (p : Phase) (n : Nat) : (s.enter p n).cfg = s.cfg := rfl
@[simp] theorem State.enter_inputs (p : Phase) (n : Nat) : (s.enter p n).inputs = s.inputs := rfl
@[simp] theorem State.enter_draws (p : Phase) (n : Nat) : (s.enter p n).draws = s.draws := rfl
@[simp] theorem State.enter_phase (p : Phase) (n : Nat) : (s.enter p n).phase = p := rfl
@[simp] theorem State.enter_op (p : Phase) (n : Nat) : (s.enter p n).op = s.op := rfl
@[simp] theorem State.enter_frame (p : Phase) (n : Nat) : (s.enter p n).frame = s.frame := rfl
@[simp] theorem State.enter_refMode (p : Phase) (n : Nat) : (s.enter p n).refMode = s.refMode := rfl
@[simp] theorem State.enter_nWord (p : Phase) (n : Nat) : (s.enter p n).nWord = s.nWord := rfl
@[simp] theorem State.enter_shreg (p : Phase) (n : Nat) : (s.enter p n).shreg = s.shreg := rfl
@[simp] theorem State.enter_bitsLeft (p : Phase) (n : Nat) : (s.enter p n).bitsLeft = s.bitsLeft := rfl
@[simp] theorem State.enter_timer (p : Phase) (n : Nat) : (s.enter p n).timer = n - 1 := rfl
@[simp] theorem State.enter_pllClk (p : Phase) (n : Nat) : (s.enter p n).pllClk = s.pllClk := rfl
@[simp] theorem State.enter_pllLe (p : Phase) (n : Nat) : (s.enter p n).pllLe = s.pllLe := rfl
@[simp] theorem State.enter_pllData (p : Phase) (n : Nat) : (s.enter p n).pllData = s.pllData := rfl
@[simp] theorem State.enter_dial (p : Phase) (n : Nat) : (s.enter p n).dial = s.dial := rfl
@[simp] theorem State.enter_done (p : Phase) (n : Nat) : (s.enter p n).done = s.done := rfl
@[simp] theorem State.enter_errInvalid (p : Phase) (n : Nat) : (s.enter p n).errInvalid = s.errInvalid := rfl

/-! ### State.countDown -/

@[simp] theorem State.countDown_cfg : s.countDown.cfg = s.cfg := rfl
@[simp] theorem State.countDown_inputs : s.countDown.inputs = s.inputs := rfl
@[simp] theorem State.countDown_draws : s.countDown.draws = s.draws := rfl
@[simp] theorem State.countDown_phase : s.countDown.phase = s.phase := rfl
@[simp] theorem State.countDown_op : s.countDown.op = s.op := rfl
@[simp] theorem State.countDown_frame : s.countDown.frame = s.frame := rfl
@[simp] theorem State.countDown_refMode : s.countDown.refMode = s.refMode := rfl
@[simp] theorem State.countDown_nWord : s.countDown.nWord = s.nWord := rfl
@[simp] theorem State.countDown_shreg : s.countDown.shreg = s.shreg := rfl
@[simp] theorem State.countDown_bitsLeft : s.countDown.bitsLeft = s.bitsLeft := rfl
@[simp] theorem State.countDown_timer : s.countDown.timer = s.timer - 1 := rfl
@[simp] theorem State.countDown_pllClk : s.countDown.pllClk = s.pllClk := rfl
@[simp] theorem State.countDown_pllLe : s.countDown.pllLe = s.pllLe := rfl
@[simp] theorem State.countDown_pllData : s.countDown.pllData = s.pllData := rfl
@[simp] theorem State.countDown_dial : s.countDown.dial = s.dial := rfl
@[simp] theorem State.countDown_done : s.countDown.done = s.done := rfl
@[simp] theorem State.countDown_errInvalid : s.countDown.errInvalid = s.errInvalid := rfl

/-! ### State.startFrame -/

@[simp] theorem State.startFrame_cfg (w : SerialWord) : (s.startFrame w).cfg = s.cfg := rfl
@[simp] theorem State.startFrame_inputs (w : SerialWord) : (s.startFrame w).inputs = s.inputs := rfl
@[simp] theorem State.startFrame_draws (w : SerialWord) : (s.startFrame w).draws = s.draws := rfl
@[simp] theorem State.startFrame_phase (w : SerialWord) : (s.startFrame w).phase = .setup := rfl
@[simp] theorem State.startFrame_op (w : SerialWord) : (s.startFrame w).op = s.op := rfl
@[simp] theorem State.startFrame_frame (w : SerialWord) : (s.startFrame w).frame = s.frame := rfl
@[simp] theorem State.startFrame_refMode (w : SerialWord) : (s.startFrame w).refMode = s.refMode := rfl
@[simp] theorem State.startFrame_nWord (w : SerialWord) : (s.startFrame w).nWord = s.nWord := rfl
@[simp] theorem State.startFrame_shreg (w : SerialWord) : (s.startFrame w).shreg = w.setWidth 24 <<< 5 := rfl
@[simp] theorem State.startFrame_bitsLeft (w : SerialWord) : (s.startFrame w).bitsLeft = 19 := rfl
@[simp] theorem State.startFrame_timer (w : SerialWord) : (s.startFrame w).timer = s.cfg.nPre - 1 := rfl
@[simp] theorem State.startFrame_pllClk (w : SerialWord) : (s.startFrame w).pllClk = false := rfl
@[simp] theorem State.startFrame_pllLe (w : SerialWord) : (s.startFrame w).pllLe = s.pllLe := rfl
@[simp] theorem State.startFrame_pllData (w : SerialWord) : (s.startFrame w).pllData = s.pllData := rfl
@[simp] theorem State.startFrame_dial (w : SerialWord) : (s.startFrame w).dial = s.dial := rfl
@[simp] theorem State.startFrame_done (w : SerialWord) : (s.startFrame w).done = s.done := rfl
@[simp] theorem State.startFrame_errInvalid (w : SerialWord) : (s.startFrame w).errInvalid = s.errInvalid := rfl

/-! ### State.enterData -/

@[simp] theorem State.enterData_cfg : s.enterData.cfg = s.cfg := rfl
@[simp] theorem State.enterData_inputs : s.enterData.inputs = s.inputs := rfl
@[simp] theorem State.enterData_draws : s.enterData.draws = s.draws := rfl
@[simp] theorem State.enterData_phase : s.enterData.phase = .data := rfl
@[simp] theorem State.enterData_op : s.enterData.op = s.op := rfl
@[simp] theorem State.enterData_frame : s.enterData.frame = s.frame := rfl
@[simp] theorem State.enterData_refMode : s.enterData.refMode = s.refMode := rfl
@[simp] theorem State.enterData_nWord : s.enterData.nWord = s.nWord := rfl
@[simp] theorem State.enterData_shreg : s.enterData.shreg = s.shreg <<< 1 := rfl
@[simp] theorem State.enterData_bitsLeft : s.enterData.bitsLeft = s.bitsLeft - 1 := rfl
@[simp] theorem State.enterData_timer : s.enterData.timer = s.cfg.nDsu - 1 := rfl
@[simp] theorem State.enterData_pllClk : s.enterData.pllClk = s.pllClk := rfl
@[simp] theorem State.enterData_pllLe : s.enterData.pllLe = s.pllLe := rfl
@[simp] theorem State.enterData_pllData : s.enterData.pllData = s.shreg.getLsbD 23 := rfl
@[simp] theorem State.enterData_dial : s.enterData.dial = s.dial := rfl
@[simp] theorem State.enterData_done : s.enterData.done = s.done := rfl
@[simp] theorem State.enterData_errInvalid : s.enterData.errInvalid = s.errInvalid := rfl

/-! ### State.raiseClock -/

@[simp] theorem State.raiseClock_cfg : s.raiseClock.cfg = s.cfg := rfl
@[simp] theorem State.raiseClock_inputs : s.raiseClock.inputs = s.inputs := rfl
@[simp] theorem State.raiseClock_draws : s.raiseClock.draws = s.draws := rfl
@[simp] theorem State.raiseClock_phase : s.raiseClock.phase = .clkh := rfl
@[simp] theorem State.raiseClock_op : s.raiseClock.op = s.op := rfl
@[simp] theorem State.raiseClock_frame : s.raiseClock.frame = s.frame := rfl
@[simp] theorem State.raiseClock_refMode : s.raiseClock.refMode = s.refMode := rfl
@[simp] theorem State.raiseClock_nWord : s.raiseClock.nWord = s.nWord := rfl
@[simp] theorem State.raiseClock_shreg : s.raiseClock.shreg = s.shreg := rfl
@[simp] theorem State.raiseClock_bitsLeft : s.raiseClock.bitsLeft = s.bitsLeft := rfl
@[simp] theorem State.raiseClock_timer : s.raiseClock.timer = s.cfg.nCh - 1 := rfl
@[simp] theorem State.raiseClock_pllClk : s.raiseClock.pllClk = true := rfl
@[simp] theorem State.raiseClock_pllLe : s.raiseClock.pllLe = s.pllLe := rfl
@[simp] theorem State.raiseClock_pllData : s.raiseClock.pllData = s.pllData := rfl
@[simp] theorem State.raiseClock_dial : s.raiseClock.dial = s.dial := rfl
@[simp] theorem State.raiseClock_done : s.raiseClock.done = s.done := rfl
@[simp] theorem State.raiseClock_errInvalid : s.raiseClock.errInvalid = s.errInvalid := rfl

/-! ### State.lowerClock -/

@[simp] theorem State.lowerClock_cfg : s.lowerClock.cfg = s.cfg := rfl
@[simp] theorem State.lowerClock_inputs : s.lowerClock.inputs = s.inputs := rfl
@[simp] theorem State.lowerClock_draws : s.lowerClock.draws = s.draws := rfl
@[simp] theorem State.lowerClock_phase : s.lowerClock.phase = .clkl := rfl
@[simp] theorem State.lowerClock_op : s.lowerClock.op = s.op := rfl
@[simp] theorem State.lowerClock_frame : s.lowerClock.frame = s.frame := rfl
@[simp] theorem State.lowerClock_refMode : s.lowerClock.refMode = s.refMode := rfl
@[simp] theorem State.lowerClock_nWord : s.lowerClock.nWord = s.nWord := rfl
@[simp] theorem State.lowerClock_shreg : s.lowerClock.shreg = s.shreg := rfl
@[simp] theorem State.lowerClock_bitsLeft : s.lowerClock.bitsLeft = s.bitsLeft := rfl
@[simp] theorem State.lowerClock_timer : s.lowerClock.timer = s.cfg.nCl - 1 := rfl
@[simp] theorem State.lowerClock_pllClk : s.lowerClock.pllClk = false := rfl
@[simp] theorem State.lowerClock_pllLe : s.lowerClock.pllLe = s.pllLe := rfl
@[simp] theorem State.lowerClock_pllData : s.lowerClock.pllData = s.pllData := rfl
@[simp] theorem State.lowerClock_dial : s.lowerClock.dial = s.dial := rfl
@[simp] theorem State.lowerClock_done : s.lowerClock.done = s.done := rfl
@[simp] theorem State.lowerClock_errInvalid : s.lowerClock.errInvalid = s.errInvalid := rfl

/-! ### State.raiseLatch -/

@[simp] theorem State.raiseLatch_cfg : s.raiseLatch.cfg = s.cfg := rfl
@[simp] theorem State.raiseLatch_inputs : s.raiseLatch.inputs = s.inputs := rfl
@[simp] theorem State.raiseLatch_draws : s.raiseLatch.draws = s.draws := rfl
@[simp] theorem State.raiseLatch_phase : s.raiseLatch.phase = .leh := rfl
@[simp] theorem State.raiseLatch_op : s.raiseLatch.op = s.op := rfl
@[simp] theorem State.raiseLatch_frame : s.raiseLatch.frame = s.frame := rfl
@[simp] theorem State.raiseLatch_refMode : s.raiseLatch.refMode = s.refMode := rfl
@[simp] theorem State.raiseLatch_nWord : s.raiseLatch.nWord = s.nWord := rfl
@[simp] theorem State.raiseLatch_shreg : s.raiseLatch.shreg = s.shreg := rfl
@[simp] theorem State.raiseLatch_bitsLeft : s.raiseLatch.bitsLeft = s.bitsLeft := rfl
@[simp] theorem State.raiseLatch_timer : s.raiseLatch.timer = s.cfg.nLeh - 1 := rfl
@[simp] theorem State.raiseLatch_pllClk : s.raiseLatch.pllClk = s.pllClk := rfl
@[simp] theorem State.raiseLatch_pllLe : s.raiseLatch.pllLe = true := rfl
@[simp] theorem State.raiseLatch_pllData : s.raiseLatch.pllData = s.pllData := rfl
@[simp] theorem State.raiseLatch_dial : s.raiseLatch.dial = s.dial := rfl
@[simp] theorem State.raiseLatch_done : s.raiseLatch.done = s.done := rfl
@[simp] theorem State.raiseLatch_errInvalid : s.raiseLatch.errInvalid = s.errInvalid := rfl

/-! ### State.lowerLatch -/

@[simp] theorem State.lowerLatch_cfg : s.lowerLatch.cfg = s.cfg := rfl
@[simp] theorem State.lowerLatch_inputs : s.lowerLatch.inputs = s.inputs := rfl
@[simp] theorem State.lowerLatch_draws : s.lowerLatch.draws = s.draws := rfl
@[simp] theorem State.lowerLatch_phase : s.lowerLatch.phase = .lel := rfl
@[simp] theorem State.lowerLatch_op : s.lowerLatch.op = s.op := rfl
@[simp] theorem State.lowerLatch_frame : s.lowerLatch.frame = s.frame := rfl
@[simp] theorem State.lowerLatch_refMode : s.lowerLatch.refMode = s.refMode := rfl
@[simp] theorem State.lowerLatch_nWord : s.lowerLatch.nWord = s.nWord := rfl
@[simp] theorem State.lowerLatch_shreg : s.lowerLatch.shreg = s.shreg := rfl
@[simp] theorem State.lowerLatch_bitsLeft : s.lowerLatch.bitsLeft = s.bitsLeft := rfl
@[simp] theorem State.lowerLatch_timer : s.lowerLatch.timer = s.cfg.nLel - 1 := rfl
@[simp] theorem State.lowerLatch_pllClk : s.lowerLatch.pllClk = s.pllClk := rfl
@[simp] theorem State.lowerLatch_pllLe : s.lowerLatch.pllLe = false := rfl
@[simp] theorem State.lowerLatch_pllData : s.lowerLatch.pllData = s.pllData := rfl
@[simp] theorem State.lowerLatch_dial : s.lowerLatch.dial = s.dial := rfl
@[simp] theorem State.lowerLatch_done : s.lowerLatch.done = s.done := rfl
@[simp] theorem State.lowerLatch_errInvalid : s.lowerLatch.errInvalid = s.errInvalid := rfl

/-! ### State.finishCommand -/

@[simp] theorem State.finishCommand_cfg : s.finishCommand.cfg = s.cfg := rfl
@[simp] theorem State.finishCommand_inputs : s.finishCommand.inputs = s.inputs := rfl
@[simp] theorem State.finishCommand_draws : s.finishCommand.draws = s.draws := rfl
@[simp] theorem State.finishCommand_phase : s.finishCommand.phase = .idle := rfl
@[simp] theorem State.finishCommand_op : s.finishCommand.op = s.op := rfl
@[simp] theorem State.finishCommand_frame : s.finishCommand.frame = s.frame := rfl
@[simp] theorem State.finishCommand_refMode : s.finishCommand.refMode = s.refMode := rfl
@[simp] theorem State.finishCommand_nWord : s.finishCommand.nWord = s.nWord := rfl
@[simp] theorem State.finishCommand_shreg : s.finishCommand.shreg = s.shreg := rfl
@[simp] theorem State.finishCommand_bitsLeft : s.finishCommand.bitsLeft = s.bitsLeft := rfl
@[simp] theorem State.finishCommand_timer : s.finishCommand.timer = s.timer := rfl
@[simp] theorem State.finishCommand_pllClk : s.finishCommand.pllClk = s.pllClk := rfl
@[simp] theorem State.finishCommand_pllLe : s.finishCommand.pllLe = s.pllLe := rfl
@[simp] theorem State.finishCommand_pllData : s.finishCommand.pllData = s.pllData := rfl
@[simp] theorem State.finishCommand_dial : s.finishCommand.dial = s.dial := rfl
@[simp] theorem State.finishCommand_done : s.finishCommand.done = true := rfl
@[simp] theorem State.finishCommand_errInvalid : s.finishCommand.errInvalid = s.errInvalid := rfl

/-! ### State.storeTuning -/

@[simp] theorem State.storeTuning_cfg (r : Bit) (n : SerialWord) (d : BitVec 16) : (s.storeTuning r n d).cfg = s.cfg := rfl
@[simp] theorem State.storeTuning_inputs (r : Bit) (n : SerialWord) (d : BitVec 16) : (s.storeTuning r n d).inputs = s.inputs := rfl
@[simp] theorem State.storeTuning_draws (r : Bit) (n : SerialWord) (d : BitVec 16) : (s.storeTuning r n d).draws = s.draws := rfl
@[simp] theorem State.storeTuning_phase (r : Bit) (n : SerialWord) (d : BitVec 16) : (s.storeTuning r n d).phase = s.phase := rfl
@[simp] theorem State.storeTuning_op (r : Bit) (n : SerialWord) (d : BitVec 16) : (s.storeTuning r n d).op = s.op := rfl
@[simp] theorem State.storeTuning_frame (r : Bit) (n : SerialWord) (d : BitVec 16) : (s.storeTuning r n d).frame = s.frame := rfl
@[simp] theorem State.storeTuning_refMode (r : Bit) (n : SerialWord) (d : BitVec 16) : (s.storeTuning r n d).refMode = r := rfl
@[simp] theorem State.storeTuning_nWord (r : Bit) (n : SerialWord) (d : BitVec 16) : (s.storeTuning r n d).nWord = n := rfl
@[simp] theorem State.storeTuning_shreg (r : Bit) (n : SerialWord) (d : BitVec 16) : (s.storeTuning r n d).shreg = s.shreg := rfl
@[simp] theorem State.storeTuning_bitsLeft (r : Bit) (n : SerialWord) (d : BitVec 16) : (s.storeTuning r n d).bitsLeft = s.bitsLeft := rfl
@[simp] theorem State.storeTuning_timer (r : Bit) (n : SerialWord) (d : BitVec 16) : (s.storeTuning r n d).timer = s.timer := rfl
@[simp] theorem State.storeTuning_pllClk (r : Bit) (n : SerialWord) (d : BitVec 16) : (s.storeTuning r n d).pllClk = s.pllClk := rfl
@[simp] theorem State.storeTuning_pllLe (r : Bit) (n : SerialWord) (d : BitVec 16) : (s.storeTuning r n d).pllLe = s.pllLe := rfl
@[simp] theorem State.storeTuning_pllData (r : Bit) (n : SerialWord) (d : BitVec 16) : (s.storeTuning r n d).pllData = s.pllData := rfl
@[simp] theorem State.storeTuning_dial (r : Bit) (n : SerialWord) (d : BitVec 16) : (s.storeTuning r n d).dial = d := rfl
@[simp] theorem State.storeTuning_done (r : Bit) (n : SerialWord) (d : BitVec 16) : (s.storeTuning r n d).done = s.done := rfl
@[simp] theorem State.storeTuning_errInvalid (r : Bit) (n : SerialWord) (d : BitVec 16) : (s.storeTuning r n d).errInvalid = s.errInvalid := rfl

/-! ### State.beginCommand -/

@[simp] theorem State.beginCommand_cfg (o : Op) : (s.beginCommand o).cfg = s.cfg := rfl
@[simp] theorem State.beginCommand_inputs (o : Op) : (s.beginCommand o).inputs = s.inputs := rfl
@[simp] theorem State.beginCommand_draws (o : Op) : (s.beginCommand o).draws = s.draws := rfl
@[simp] theorem State.beginCommand_phase (o : Op) : (s.beginCommand o).phase = s.phase := rfl
@[simp] theorem State.beginCommand_op (o : Op) : (s.beginCommand o).op = o := rfl
@[simp] theorem State.beginCommand_frame (o : Op) : (s.beginCommand o).frame = .frR := rfl
@[simp] theorem State.beginCommand_refMode (o : Op) : (s.beginCommand o).refMode = s.refMode := rfl
@[simp] theorem State.beginCommand_nWord (o : Op) : (s.beginCommand o).nWord = s.nWord := rfl
@[simp] theorem State.beginCommand_shreg (o : Op) : (s.beginCommand o).shreg = s.shreg := rfl
@[simp] theorem State.beginCommand_bitsLeft (o : Op) : (s.beginCommand o).bitsLeft = s.bitsLeft := rfl
@[simp] theorem State.beginCommand_timer (o : Op) : (s.beginCommand o).timer = s.timer := rfl
@[simp] theorem State.beginCommand_pllClk (o : Op) : (s.beginCommand o).pllClk = s.pllClk := rfl
@[simp] theorem State.beginCommand_pllLe (o : Op) : (s.beginCommand o).pllLe = s.pllLe := rfl
@[simp] theorem State.beginCommand_pllData (o : Op) : (s.beginCommand o).pllData = s.pllData := rfl
@[simp] theorem State.beginCommand_dial (o : Op) : (s.beginCommand o).dial = s.dial := rfl
@[simp] theorem State.beginCommand_done (o : Op) : (s.beginCommand o).done = s.done := rfl
@[simp] theorem State.beginCommand_errInvalid (o : Op) : (s.beginCommand o).errInvalid = s.errInvalid := rfl

/-! ### State.secondFrame -/

@[simp] theorem State.secondFrame_cfg : s.secondFrame.cfg = s.cfg := rfl
@[simp] theorem State.secondFrame_inputs : s.secondFrame.inputs = s.inputs := rfl
@[simp] theorem State.secondFrame_draws : s.secondFrame.draws = s.draws := rfl
@[simp] theorem State.secondFrame_phase : s.secondFrame.phase = s.phase := rfl
@[simp] theorem State.secondFrame_op : s.secondFrame.op = s.op := rfl
@[simp] theorem State.secondFrame_frame : s.secondFrame.frame = .frN := rfl
@[simp] theorem State.secondFrame_refMode : s.secondFrame.refMode = s.refMode := rfl
@[simp] theorem State.secondFrame_nWord : s.secondFrame.nWord = s.nWord := rfl
@[simp] theorem State.secondFrame_shreg : s.secondFrame.shreg = s.shreg := rfl
@[simp] theorem State.secondFrame_bitsLeft : s.secondFrame.bitsLeft = s.bitsLeft := rfl
@[simp] theorem State.secondFrame_timer : s.secondFrame.timer = s.timer := rfl
@[simp] theorem State.secondFrame_pllClk : s.secondFrame.pllClk = s.pllClk := rfl
@[simp] theorem State.secondFrame_pllLe : s.secondFrame.pllLe = s.pllLe := rfl
@[simp] theorem State.secondFrame_pllData : s.secondFrame.pllData = s.pllData := rfl
@[simp] theorem State.secondFrame_dial : s.secondFrame.dial = s.dial := rfl
@[simp] theorem State.secondFrame_done : s.secondFrame.done = s.done := rfl
@[simp] theorem State.secondFrame_errInvalid : s.secondFrame.errInvalid = s.errInvalid := rfl

/-! ### State.advanceDraws -/

@[simp] theorem State.advanceDraws_cfg : s.advanceDraws.cfg = s.cfg := rfl
@[simp] theorem State.advanceDraws_inputs : s.advanceDraws.inputs = s.inputs := rfl
@[simp] theorem State.advanceDraws_draws : s.advanceDraws.draws = s.draws + 1 := rfl
@[simp] theorem State.advanceDraws_phase : s.advanceDraws.phase = s.phase := rfl
@[simp] theorem State.advanceDraws_op : s.advanceDraws.op = s.op := rfl
@[simp] theorem State.advanceDraws_frame : s.advanceDraws.frame = s.frame := rfl
@[simp] theorem State.advanceDraws_refMode : s.advanceDraws.refMode = s.refMode := rfl
@[simp] theorem State.advanceDraws_nWord : s.advanceDraws.nWord = s.nWord := rfl
@[simp] theorem State.advanceDraws_shreg : s.advanceDraws.shreg = s.shreg := rfl
@[simp] theorem State.advanceDraws_bitsLeft : s.advanceDraws.bitsLeft = s.bitsLeft := rfl
@[simp] theorem State.advanceDraws_timer : s.advanceDraws.timer = s.timer := rfl
@[simp] theorem State.advanceDraws_pllClk : s.advanceDraws.pllClk = s.pllClk := rfl
@[simp] theorem State.advanceDraws_pllLe : s.advanceDraws.pllLe = s.pllLe := rfl
@[simp] theorem State.advanceDraws_pllData : s.advanceDraws.pllData = s.pllData := rfl
@[simp] theorem State.advanceDraws_dial : s.advanceDraws.dial = s.dial := rfl
@[simp] theorem State.advanceDraws_done : s.advanceDraws.done = s.done := rfl
@[simp] theorem State.advanceDraws_errInvalid : s.advanceDraws.errInvalid = s.errInvalid := rfl

/-! ### State.raiseInvalidChannel -/

@[simp] theorem State.raiseInvalidChannel_cfg : s.raiseInvalidChannel.cfg = s.cfg := rfl
@[simp] theorem State.raiseInvalidChannel_inputs : s.raiseInvalidChannel.inputs = s.inputs := rfl
@[simp] theorem State.raiseInvalidChannel_draws : s.raiseInvalidChannel.draws = s.draws := rfl
@[simp] theorem State.raiseInvalidChannel_phase : s.raiseInvalidChannel.phase = s.phase := rfl
@[simp] theorem State.raiseInvalidChannel_op : s.raiseInvalidChannel.op = s.op := rfl
@[simp] theorem State.raiseInvalidChannel_frame : s.raiseInvalidChannel.frame = s.frame := rfl
@[simp] theorem State.raiseInvalidChannel_refMode : s.raiseInvalidChannel.refMode = s.refMode := rfl
@[simp] theorem State.raiseInvalidChannel_nWord : s.raiseInvalidChannel.nWord = s.nWord := rfl
@[simp] theorem State.raiseInvalidChannel_shreg : s.raiseInvalidChannel.shreg = s.shreg := rfl
@[simp] theorem State.raiseInvalidChannel_bitsLeft : s.raiseInvalidChannel.bitsLeft = s.bitsLeft := rfl
@[simp] theorem State.raiseInvalidChannel_timer : s.raiseInvalidChannel.timer = s.timer := rfl
@[simp] theorem State.raiseInvalidChannel_pllClk : s.raiseInvalidChannel.pllClk = s.pllClk := rfl
@[simp] theorem State.raiseInvalidChannel_pllLe : s.raiseInvalidChannel.pllLe = s.pllLe := rfl
@[simp] theorem State.raiseInvalidChannel_pllData : s.raiseInvalidChannel.pllData = s.pllData := rfl
@[simp] theorem State.raiseInvalidChannel_dial : s.raiseInvalidChannel.dial = s.dial := rfl
@[simp] theorem State.raiseInvalidChannel_done : s.raiseInvalidChannel.done = true := rfl
@[simp] theorem State.raiseInvalidChannel_errInvalid : s.raiseInvalidChannel.errInvalid = true := rfl

/-! ### State.beginTune -/

@[simp] theorem State.beginTune_cfg (r : Bit) (n : SerialWord) (d : BitVec 16) :
    (s.beginTune r n d).cfg = s.cfg := rfl
@[simp] theorem State.beginTune_inputs (r : Bit) (n : SerialWord) (d : BitVec 16) :
    (s.beginTune r n d).inputs = s.inputs := rfl
@[simp] theorem State.beginTune_draws (r : Bit) (n : SerialWord) (d : BitVec 16) :
    (s.beginTune r n d).draws = s.draws := rfl
@[simp] theorem State.beginTune_phase (r : Bit) (n : SerialWord) (d : BitVec 16) :
    (s.beginTune r n d).phase = .setup := rfl
@[simp] theorem State.beginTune_op (r : Bit) (n : SerialWord) (d : BitVec 16) :
    (s.beginTune r n d).op = .tune := rfl
@[simp] theorem State.beginTune_frame (r : Bit) (n : SerialWord) (d : BitVec 16) :
    (s.beginTune r n d).frame = .frR := rfl
@[simp] theorem State.beginTune_refMode (r : Bit) (n : SerialWord) (d : BitVec 16) :
    (s.beginTune r n d).refMode = r := rfl
@[simp] theorem State.beginTune_nWord (r : Bit) (n : SerialWord) (d : BitVec 16) :
    (s.beginTune r n d).nWord = n := rfl
@[simp] theorem State.beginTune_shreg (r : Bit) (n : SerialWord) (d : BitVec 16) :
    (s.beginTune r n d).shreg = (select r).setWidth 24 <<< 5 := rfl
@[simp] theorem State.beginTune_bitsLeft (r : Bit) (n : SerialWord) (d : BitVec 16) :
    (s.beginTune r n d).bitsLeft = 19 := rfl
@[simp] theorem State.beginTune_timer (r : Bit) (n : SerialWord) (d : BitVec 16) :
    (s.beginTune r n d).timer = s.cfg.nPre - 1 := rfl
@[simp] theorem State.beginTune_pllClk (r : Bit) (n : SerialWord) (d : BitVec 16) :
    (s.beginTune r n d).pllClk = false := rfl
@[simp] theorem State.beginTune_pllLe (r : Bit) (n : SerialWord) (d : BitVec 16) :
    (s.beginTune r n d).pllLe = s.pllLe := rfl
@[simp] theorem State.beginTune_pllData (r : Bit) (n : SerialWord) (d : BitVec 16) :
    (s.beginTune r n d).pllData = s.pllData := rfl
@[simp] theorem State.beginTune_dial (r : Bit) (n : SerialWord) (d : BitVec 16) :
    (s.beginTune r n d).dial = d := rfl
@[simp] theorem State.beginTune_done (r : Bit) (n : SerialWord) (d : BitVec 16) :
    (s.beginTune r n d).done = s.done := rfl
@[simp] theorem State.beginTune_errInvalid (r : Bit) (n : SerialWord) (d : BitVec 16) :
    (s.beginTune r n d).errInvalid = s.errInvalid := rfl

end Sys2Proof.Machine
end

