-- ==== Sys2Proof/Laws/Step.lean ====
section
/-! SUPPORT. What an instruction and a step can answer: cite these lemmas instead of unfolding `exec` and `step`. -/

namespace Sys2Proof.Machine

variable {s t : State}

/-- TUNE answers a next state: COMPUTE's results in range, a rejection or drawn results out of range. -/
theorem execTune_eq (ch : BitVec 8) (s : State) :
    execTune ch s = .next (
      if inRange ch then
        s.clearPulses.beginTune (compute s.cfg.correctOnTie ch).r (compute s.cfg.correctOnTie ch).n
          (compute s.cfg.correctOnTie ch).d
      else if s.cfg.validateChannel then s.clearPulses.raiseInvalidChannel
      else s.clearPulses.advanceDraws.beginTune
        (Config.drawRefMode s.draws) (drawnN s.draws) (Config.drawDial s.draws)) := by
  unfold execTune
  split
  · rfl
  · split <;> rfl

/-- Every instruction answers a next state: nothing stops the block (60_exceptions.md R126). -/
theorem exec_next (i : Instr) (s : State) : ∃ t, exec i s = .next t := by
  cases i with
  | tune ch => exact ⟨_, execTune_eq ch s⟩
  | init => exact ⟨_, rfl⟩
  | frameR upper div => exact ⟨_, rfl⟩
  | frameN b a => exact ⟨_, rfl⟩

/-- The exit action of a phase answers a next state. -/
theorem phaseEnd_next (s : State) : ∃ t, phaseEnd s = .next t := by
  unfold phaseEnd
  split
  case h_7 =>
    split
    · exact exec_next _ _
    · exact ⟨_, rfl⟩
  all_goals exact ⟨_, rfl⟩

/-- One edge answers a next state. -/
theorem clockEdge_next (p : Input) (s : State) : ∃ t, clockEdge p s = .next t := by
  unfold clockEdge
  split
  · exact ⟨_, rfl⟩
  · split
    · split
      · exact exec_next _ _
      · exact ⟨_, rfl⟩
    · split
      · exact ⟨_, rfl⟩
      · exact phaseEnd_next _

/-- A step of a conforming build is one edge with the current ports. -/
theorem step_of_conforms (h : buildConforms s.cfg = true) : step s = clockEdge s.ports s.dropInput := by
  simp [step, clockStep, h]

/-- What a step that answers a next state has done (43_commands.md R121): reset, accepted a command, idled, counted
down, or ended a phase. -/
theorem step_cases (h : step s = .next t) :
    buildConforms s.cfg = true ∧
    ((s.ports.rst = true ∧ t = s.dropInput.applyReset) ∨
     (s.ports.rst = false ∧ s.phase = .idle ∧ s.ports.cmdValid = true ∧
        exec (decodeCommand s.ports.cmd) s.dropInput = .next t) ∨
     (s.ports.rst = false ∧ s.phase = .idle ∧ s.ports.cmdValid = false ∧ t = s.dropInput.clearPulses) ∨
     (s.ports.rst = false ∧ s.phase ≠ .idle ∧ 0 < s.timer ∧ t = s.dropInput.clearPulses.countDown) ∨
     (s.ports.rst = false ∧ s.phase ≠ .idle ∧ s.timer = 0 ∧
        phaseEnd s.dropInput.clearPulses = .next t)) := by
  by_cases hc : buildConforms s.cfg = true
  · rw [step_of_conforms hc] at h
    refine ⟨hc, ?_⟩
    unfold clockEdge at h
    split at h
    case isTrue hr => exact .inl ⟨hr, by injection h with h; exact h.symm⟩
    case isFalse hr =>
      have hr : s.ports.rst = false := by simpa using hr
      split at h
      case isTrue hp =>
        split at h
        case isTrue hv => exact .inr (.inl ⟨hr, hp, hv, h⟩)
        case isFalse hv =>
          exact .inr (.inr (.inl ⟨hr, hp, by simpa using hv, by injection h with h; exact h.symm⟩))
      case isFalse hp =>
        split at h
        case isTrue ht =>
          exact .inr (.inr (.inr (.inl ⟨hr, hp, ht, by injection h with h; exact h.symm⟩)))
        case isFalse ht =>
          exact .inr (.inr (.inr (.inr ⟨hr, hp, by simpa using ht, h⟩)))
  · simp [step, clockStep, hc] at h

/-- What the exit action of a running phase does, phase by phase (43_commands.md R121). -/
theorem phaseEnd_cases (hp : s.phase ≠ .idle) (h : phaseEnd s = .next t) :
    (s.phase = .setup ∧ t = s.enterData) ∨
    (s.phase = .data ∧ t = s.raiseClock) ∨
    (s.phase = .clkh ∧ t = s.lowerClock) ∨
    (s.phase = .clkl ∧ 0 < s.bitsLeft ∧ t = s.enterData) ∨
    (s.phase = .clkl ∧ s.bitsLeft = 0 ∧ t = s.raiseLatch) ∨
    (s.phase = .leh ∧ t = s.lowerLatch) ∨
    (s.phase = .lel ∧ s.op = .tune ∧ s.frame = .frR ∧ exec (decodeSerial s.nWord) s.secondFrame = .next t) ∨
    (s.phase = .lel ∧ ¬(s.op = .tune ∧ s.frame = .frR) ∧ t = s.finishCommand) := by
  unfold phaseEnd at h
  cases hph : s.phase <;> simp only [hph] at h
  case idle => exact absurd hph hp
  case setup => injection h with h; simp [h]
  case data => injection h with h; simp [h]
  case clkh => injection h with h; simp [h]
  case leh => injection h with h; simp [h]
  case clkl =>
    injection h with h
    by_cases hb : 0 < s.bitsLeft
    · rw [if_pos hb] at h; simp [h, hb]
    · rw [if_neg hb] at h; simp [h, Nat.eq_zero_of_not_pos hb]
  case lel =>
    split at h
    case isTrue hl => simp [hl.1, hl.2, h]
    case isFalse hl => injection h with h; simp [hl, h]

end Sys2Proof.Machine
end

