-- ==== Sys2Proof/Laws/Frames.lean ====
section
/-! SUPPORT. What the sequencer's serial words, the build's phase lengths and the record of a run amount to. -/

namespace Sys2Proof.Machine

/-- An R word with its fields taken apart and joined again is itself. -/
theorem serialWordR_fields (w : SerialWord) (h : w.getLsbD 0 = true) :
    serialWordR (w.extractLsb' 14 5) (w.extractLsb' 1 13) = w := by
  apply BitVec.eq_of_getLsbD_eq
  intro i hi
  simp only [serialWordR, BitVec.getLsbD_append, BitVec.getLsbD_extractLsb', BitVec.getLsbD_one]
  rcases Nat.eq_zero_or_pos i with rfl | h0
  · simpa using h.symm
  · by_cases h1 : i < 14
    · have h2 : ¬ i < 1 := by omega
      have h3 : i - 1 < 13 := by omega
      have h4 : 1 + (i - 1) = i := by omega
      simp [h1, h2, h3, h4]
    · have h2 : i - 14 < 5 := by omega
      have h4 : 14 + (i - 14) = i := by omega
      simp [h1, h2, h4]

/-- An N word with its fields taken apart and joined again is itself. -/
theorem serialWordN_fields (w : SerialWord) (h : w.getLsbD 0 = false) :
    serialWordN (w.extractLsb' 8 11) (w.extractLsb' 1 7) = w := by
  apply BitVec.eq_of_getLsbD_eq
  intro i hi
  simp only [serialWordN, BitVec.getLsbD_append, BitVec.getLsbD_extractLsb', BitVec.getLsbD_zero]
  rcases Nat.eq_zero_or_pos i with rfl | h0
  · simpa using h.symm
  · by_cases h1 : i < 8
    · have h2 : ¬ i < 1 := by omega
      have h3 : i - 1 < 7 := by omega
      have h4 : 1 + (i - 1) = i := by omega
      simp [h1, h2, h3, h4]
    · have h2 : i - 8 < 11 := by omega
      have h4 : 8 + (i - 8) = i := by omega
      simp [h1, h2, h4]

/-- Running the frame a word decodes to starts TRANSMIT with that word (42_serializer.md R92). -/
theorem exec_decodeSerial (w : SerialWord) (s : State) :
    exec (decodeSerial w) s = .next (s.clearPulses.startFrame w) := by
  unfold decodeSerial
  split
  case isTrue h => simp only [exec, execFrameR, serialWordR_fields w h]
  case isFalse h => simp only [exec, execFrameN, serialWordN_fields w (by simpa using h)]

/-- Every phase of a conforming build lasts at least one cycle (42_serializer.md R98, R99). -/
theorem phaseCycles_pos {c : Config} (h : buildConforms c = true) {p : Phase} (hp : p ≠ .idle) :
    0 < phaseCycles c p := by
  simp [buildConforms, minCycles] at h
  cases p <;> simp only [phaseCycles] <;> first | exact absurd rfl hp | omega

/-- No phase is longer than the longest (10_state.md R25). -/
theorem phaseCycles_le_max (c : Config) (p : Phase) : phaseCycles c p ≤ maxPhaseCycles c := by
  cases p <;> simp only [phaseCycles, maxPhaseCycles] <;> omega

/-- A record starts with this cycle's view and goes on after the step. -/
theorem record_succ {α : Type} (view : State → α) (k : Nat) {s t : State} (h : step s = .next t) :
    record view (k + 1) s = view s :: record view k t := by
  simp [record, h]

/-- A running phase whose timer has not run out keeps the lines for one more cycle (42_serializer.md R99). -/
theorem step_countDown {s : State} (hc : buildConforms s.cfg = true) (hr : s.ports.rst = false)
    (hp : s.phase ≠ .idle) (ht : 0 < s.timer) :
    step s = .next s.dropInput.clearPulses.countDown := by
  simp [step_of_conforms hc, clockEdge, hr, hp, ht]

/-- A running phase whose timer has run out ends (42_serializer.md R99). -/
theorem step_phaseEnd {s : State} (hc : buildConforms s.cfg = true) (hr : s.ports.rst = false)
    (hp : s.phase ≠ .idle) (ht : s.timer = 0) :
    step s = phaseEnd s.dropInput.clearPulses := by
  simp [step_of_conforms hc, clockEdge, hr, hp, ht]

end Sys2Proof.Machine
end

