-- ==== Sys2Proof/Laws/PerInstr.lean ====
section
/-! SUPPORT. What holds of every instruction as syntax, one lemma per constructor. -/

namespace Sys2Proof.Laws.TableRow

/-- The `mask` of the instruction's row in spec/opcode_table.json. -/
def mask : Instr → Nat
  | .tune _ => 0x100
  | .init => 0x100
  | .frameR _ _ => 0x00001
  | .frameN _ _ => 0x00001

/-- The `match` of the instruction's row in spec/opcode_table.json. -/
def pattern : Instr → Nat
  | .tune _ => 0x000
  | .init => 0x100
  | .frameR _ _ => 0x00001
  | .frameN _ _ => 0x00000

/-- An encoded instruction has its row's fixed bits and fits its row's width. -/
def Statement (i : Instr) : Prop :=
  (encode i).number &&& mask i = pattern i ∧ (encode i).number < 2 ^ (encode i).width

theorem tune (ch : BitVec 8) : Statement (.tune ch) := by
  refine ⟨?_, BitVec.isLt _⟩
  revert ch
  decide

theorem init : Statement .init := by
  refine ⟨?_, BitVec.isLt _⟩
  decide

theorem frameR (upper : BitVec 5) (div : BitVec 13) : Statement (.frameR upper div) := by
  refine ⟨?_, BitVec.isLt _⟩
  simp only [encode, serialWordR, CodeWord.number, mask, pattern, Nat.and_one_is_mod, BitVec.toNat_append]
  simp [Nat.or_mod_two_eq_one, Nat.shiftLeft_eq]

theorem frameN (b : BitVec 11) (a : BitVec 7) : Statement (.frameN b a) := by
  refine ⟨?_, BitVec.isLt _⟩
  simp only [encode, serialWordN, CodeWord.number, mask, pattern, Nat.and_one_is_mod, BitVec.toNat_append]
  have h : (b.toNat * 256 ||| a.toNat * 2) % 2 ^ 1 = 0 := by
    have hb : b.toNat * 256 % 2 ^ 1 = 0 := by omega
    have ha : a.toNat * 2 % 2 ^ 1 = 0 := by omega
    rw [Nat.or_mod_two_pow, hb, ha]
    rfl
  simpa [Nat.shiftLeft_eq] using h

end Sys2Proof.Laws.TableRow
end

