-- ==== Sys2Proof/Machine/Issue.lean ====
section
/-! DEFINITION. The host that issues a program (30_encoding.md R68): one command after another, each in the first cycle
with `busy = 0` at or after the previous one's `done` pulse. -/

namespace Sys2Proof.Machine

/-- What the issuing host presents in this cycle, and the commands it has still to issue. While `busy = 0` no earlier
command is running, so the next one is offered at once; it is then accepted at this cycle's edge (43_commands.md R111). -/
def issueInput (prog : List CommandWord) (s : State) : Input × List CommandWord :=
  match prog with
  | [] => (Input.quiet, [])
  | w :: rest => if s.busy then (Input.quiet, prog) else (Input.offer w, rest)

/-- The outputs of the `k` cycles from `s` on, with the host issuing `prog`. -/
def issue : Nat → List CommandWord → State → List Outputs
  | 0, _, _ => []
  | k + 1, prog, s =>
    let (p, rest) := issueInput prog s
    s.outputs :: match step { s with inputs := [p] } with
      | .next t => issue k rest t
      | .fault _ => []
      | .refused _ => []

end Sys2Proof.Machine
end

