-- ==== Sys2Proof/Tests/Slice0.lean ====
section
/-! SUPPORT. Small tests on words and values written out from spec/ (each names its source), and one witness for every
statement with hypotheses: a concrete state and operands that meet all of them. -/

namespace Sys2Proof.Tests

open Sys2Proof Sys2Proof.Machine

/-! ### Well-formedness -/

/-- The two constants of 30_encoding.md R59. -/
theorem test_wellFormed_r_constants :
    (decodeSerial 0x08051#19).wellFormed = true ∧ (decodeSerial 0x080A1#19).wellFormed = true := by decide

/-- An R word with another divider, or with another upper field, is none the block has (30_encoding.md R65). -/
theorem test_illFormed_r_words :
    (Instr.frameR 0b00010 41).wellFormed = false ∧ (Instr.frameR 0b00011 40).wellFormed = false := by decide

/-! ### Decoding words written out from the encoding tables -/

/-- TUNE, bits `0 cccccccc` (30_encoding.md R53, R70). -/
theorem test_decode_tune : decodeCommand 0b010111110#9 = .tune 190 := by decide

/-- INIT, bits `1 xxxxxxxx`: 0x1FF is INIT (95_test_vectors.md V9). -/
theorem test_decode_init : decodeCommand 0b111111111#9 = .init := by decide

/-- `R_HIGH`, 0b00010 then divider 80 then C = 1 (30_encoding.md R59, R60). -/
theorem test_decode_frameR : decodeSerial 0b0001000000010100001#19 = .frameR 0b00010 80 := by decide

/-- The N word of channel 12, B = 55 and A = 24 (95_test_vectors.md V2, V5 row 13). -/
theorem test_decode_frameN : decodeSerial 0b0000011011100110000#19 = .frameN 55 24 := by decide

/-- The opcode table's `match` of every row is that row's instruction. -/
theorem test_decode_table_rows :
    decodeTableWord 16 0x000 = some (.tune 0) ∧ decodeTableWord 16 0x100 = some .init ∧
    decodeTableWord 24 0x00001 = some (.frameR 0 0) ∧ decodeTableWord 24 0x00000 = some (.frameN 0 0) := by decide

/-- Bytes that are no instruction are rejected by name. -/
theorem test_decode_rejects :
    decodeBytes [0x51] = .error (.length 1) ∧ decodeBytes [0x01, 0x02] = .error .strayCommandBits :=
  ⟨rfl, rfl⟩

/-- The assembler on lines of 95_test_vectors.md V9; `TUNE 256` is rejected. -/
theorem test_assemble_lines :
    assembleLine "tune 0x0B ; tie".toList = .ok (some 0x00B) ∧ assembleLine "INIT".toList = .ok (some 0x100) ∧
    assembleLine "TUNE 256".toList = .error (.channelTooLarge 256) ∧
    assembleLine "; nothing".toList = .ok none :=
  ⟨rfl, rfl, rfl, rfl⟩

/-! ### Meanings, one step each -/

/-- One field of the next state an outcome holds, if it holds one. -/
def after {α : Type} (view : State → α) : Host.Outcome State Fault Refusal → Option α
  | .next t => some (view t)
  | .fault _ => none
  | .refused _ => none

/-- A reference build with both options set. -/
def hardened : Config := { Config.reference with validateChannel := true, correctOnTie := true }

/-- 95_test_vectors.md V1: `tune(1)` stores 0x01B22 and 881, mode 0. -/
theorem test_tune_1 :
    after (fun t => (t.refMode, t.nWord, t.dial, t.shreg)) (exec (.tune 1) State.reset) =
      some (false, 0x01B22#19, 881#16, 0x100A20#24) := by decide

/-- 95_test_vectors.md V7: channel 11 is corrected with `CORRECT_ON_TIE`; and V2: it is not by default. -/
theorem test_tune_tie :
    after (fun t => (t.refMode, t.nWord, t.dial)) (exec (.tune 11) (State.resetOf hardened)) =
      some (true, 0x0372C#19, 891#16) ∧
    after (fun t => (t.refMode, t.nWord, t.dial)) (exec (.tune 11) State.reset) =
      some (false, 0x01B36#19, 891#16) := by decide

/-- 95_test_vectors.md P5: INIT after a corrected TUNE sends `R_LOW` and keeps the flag. -/
theorem test_init_keeps_flag :
    after (fun t => (t.refMode, t.dial, t.shreg)) (exec .init { State.reset with refMode := true, dial := 892 }) =
      some (true, 892#16, 0x100A20#24) := by decide

/-- 95_test_vectors.md V4: `shreg` after `start_frame` of `R_HIGH`. -/
theorem test_frameR_shreg :
    after State.shreg (exec (.frameR 0b00010 80) State.reset) = some 0x101420#24 := by decide

/-- 95_test_vectors.md V1: `shreg` after `start_frame` of 0x01B22. -/
theorem test_frameN_shreg :
    after State.shreg (exec (.frameN 27 17) State.reset) = some 0x036440#24 := by decide

/-- 95_test_vectors.md V8 rows 1 and 4: a validating build rejects channel 0 and runs INIT as 0x1FF. -/
theorem test_validating_build :
    after (fun t => (t.busy, t.done, t.errInvalid))
      (step { State.resetOf hardened with inputs := [Input.offer 0x000] }) = some (false, true, true) ∧
    after (fun t => (t.busy, t.done, t.errInvalid))
      (step { State.resetOf hardened with inputs := [Input.offer 0x1FF] }) = some (true, false, false) := by decide

/-- 95_test_vectors.md V6 row 5: reset wins over an offered command. -/
theorem test_reset_wins :
    after id (step { State.reset with inputs := [⟨true, true, 0x001⟩], dial := 5, phase := .clkh, pllClk := true }) =
      some State.reset := by decide

/-- The placed word of each table row is run by the very next step (log 5). -/
theorem test_placed_words_run :
    after State.op (step (State.reset.withFetchWord 16 0x100)) = some .init ∧
    after State.nWord (step (State.reset.withFetchWord 16 0x00C)) = some 0x03730#19 ∧
    after State.shreg (step (State.reset.withFetchWord 24 0x080A1)) = some 0x101420#24 ∧
    after State.shreg (step (State.reset.withFetchWord 24 0x01B22)) = some 0x036440#24 := by decide

/-- The `match` word of each table row runs as the first instruction after reset; for TUNE it is channel 0, whose drawn
results leave the phase, the command and the draw counter as the spec says (95_test_vectors.md V8 row 5). -/
theorem test_table_rows_run :
    after (fun t => (t.phase, t.op, t.draws, t.bitsLeft)) (step (State.reset.withFetchWord 16 0x000)) =
      some (.setup, .tune, 1, 19) ∧
    after State.shreg (step (State.reset.withFetchWord 16 0x100)) = some 0x100A20#24 ∧
    after State.shreg (step (State.reset.withFetchWord 24 0x00001)) = some 0x000020#24 ∧
    after State.shreg (step (State.reset.withFetchWord 24 0x00000)) = some 0#24 := by decide

/-- The bus reader finds the word of a short frame (30_encoding.md R63), in a build whose phases all last one cycle. -/
theorem test_read_frame :
    readFrames (waveform ⟨50000, 1, 1, 1, 1, 1, 1, false, false⟩ 0x08051 true) = [0x08051#19] := by decide

/-- 95_test_vectors.md P8: after a completed R frame and no N frame, the chip holds `R_HIGH` in R. -/
theorem test_lastCommitted :
    lastCommitted .frR [0x080A1] = some 0x080A1 ∧ lastCommitted .frN [0x080A1] = none := by decide

/-- The issuing host offers INIT at once and holds the next command while the block is busy (30_encoding.md R68). -/
theorem test_issue :
    (issue 2 [0x100, 0x001] State.reset).map Outputs.busy = [false, true] ∧
    (issueInput [0x001] { State.reset with phase := .setup }).1 = Input.quiet := by decide

/-! ### Witnesses: a concrete state and operands that meet the hypotheses of each statement -/

/-- An INIT's frame of `R_LOW` in phase `p`, with `k` bits left and the phase's timer at `t`. -/
def inFrame (p : Phase) (k t : Nat) : State :=
  { State.reset with
    phase := p, op := .init, bitsLeft := k, timer := t
    shreg := ((select false).setWidth 24 <<< 5) <<< (19 - k), pllData := (select false).getLsbD k
    pllClk := decide (p = .clkh), pllLe := decide (p = .leh) }

/-- The same for the N frame of `TUNE 12`. -/
def inNFrame (p : Phase) (k t : Nat) : State :=
  { State.reset with
    phase := p, op := .tune, frame := .frN, refMode := true, nWord := 0x03730, dial := 892, bitsLeft := k, timer := t
    shreg := ((0x03730#19).setWidth 24 <<< 5) <<< (19 - k), pllData := (0x03730#19).getLsbD k
    pllClk := decide (p = .clkh), pllLe := decide (p = .leh) }

theorem witness_CommandDecodeTotal :
    (0x0BE#9).getLsbD 8 = false ∧ (0x1FF#9).getLsbD 8 = true := by decide

theorem witness_AssembleTune : "TuNe".toList.map Char.toLower = ['t', 'u', 'n', 'e'] := by decide

theorem witness_AssembleInit : "INIT".toList.map Char.toLower = ['i', 'n', 'i', 't'] := by decide

theorem witness_AssembleRejectsOtherMnemonics :
    ['G', 'O'] ≠ [] ∧ (∀ c ∈ ['G', 'O'], c ≠ ';' ∧ c ≠ ' ' ∧ c ≠ '\t' ∧ c ≠ '\r') ∧
    ['G', 'O'].map Char.toLower ≠ ['t', 'u', 'n', 'e'] ∧
    ['G', 'O'].map Char.toLower ≠ ['i', 'n', 'i', 't'] := by
  refine ⟨by simp, by simp, by simp, by simp⟩

theorem witness_TuneInRange :
    (1 ≤ (1#8).toNat ∧ (1#8).toNat ≤ 190) ∧ (1 ≤ (190#8).toNat ∧ (190#8).toNat ≤ 190) := by decide

theorem witness_TuneDrawn :
    ((0#8).toNat = 0 ∧ State.reset.cfg.validateChannel = false) ∧
    (191 ≤ (191#8).toNat ∧ State.reset.cfg.validateChannel = false) := by decide

/-- The exec clause at both ends of the range, and the step clause with a quiet next cycle. -/
theorem witness_TuneRejected :
    ((0#8).toNat = 0 ∧ (State.resetOf hardened).cfg.validateChannel = true) ∧
    (191 ≤ (255#8).toNat ∧ (State.resetOf hardened).cfg.validateChannel = true) ∧
    (buildConforms (State.resetOf hardened).cfg = true ∧ (State.resetOf hardened).phase = .idle ∧
      ({ State.resetOf hardened with inputs := [Input.offer 0x0FF, Input.quiet] } : State).inputs =
        Input.offer ((255#8).setWidth 9) :: Input.quiet :: [] ∧
      Input.quiet.rst = false ∧ Input.quiet.cmdValid = false) := by decide

theorem witness_CommandsBeginWithRFrame :
    (1 ≤ (12#8).toNat ∧ (12#8).toNat ≤ 190) ∧ State.reset.cfg.validateChannel = false := by decide

theorem witness_DividerPairs :
    1 ≤ (143#8).toNat ∧ (143#8).toNat ≤ 190 ∧ State.reset.cfg.correctOnTie = false ∧
    (State.resetOf hardened).cfg.correctOnTie = true := by decide

theorem witness_ConsecutiveDials : 1 ≤ (189#8).toNat ∧ (189#8).toNat ≤ 189 := by decide

theorem witness_TuneForgetsHistory :
    1 ≤ (12#8).toNat ∧ (12#8).toNat ≤ 190 ∧
    State.reset.cfg.correctOnTie = (inNFrame .clkl 3 2).cfg.correctOnTie := by decide

theorem witness_StepRunsCommand :
    buildConforms State.reset.cfg = true ∧ State.reset.phase = .idle ∧
    ({ State.reset with inputs := [Input.offer 0x00C] } : State).inputs = Input.offer 0x00C :: [] ∧
    (Input.offer 0x00C).rst = false ∧ (Input.offer 0x00C).cmdValid = true ∧
    decodeCommand (Input.offer 0x00C).cmd = .tune 12 := by decide

/-- The end of the R frame of `TUNE 12`. -/
def endOfRFrame : State :=
  { inNFrame .lel 0 0 with frame := .frR, shreg := ((select true).setWidth 24 <<< 5) <<< 19, pllData := true }

theorem witness_StepRunsSecondFrame :
    buildConforms endOfRFrame.cfg = true ∧ endOfRFrame.ports.rst = false ∧ endOfRFrame.phase = .lel ∧
    endOfRFrame.timer = 0 ∧ endOfRFrame.op = .tune ∧ endOfRFrame.frame = .frR ∧
    decodeSerial endOfRFrame.nWord = .frameN 55 24 := by decide

theorem witness_BusyBlockIgnoresCommands : (inFrame .data 3 7).phase ≠ .idle := by decide

theorem witness_ResetEdge :
    buildConforms (inFrame .data 3 7).cfg = true ∧
    ({ inFrame .data 3 7 with inputs := [⟨true, true, 0x001⟩] } : State).ports.rst = true := by decide

theorem witness_IdleBlockWaits :
    buildConforms State.reset.cfg = true ∧ State.reset.phase = .idle ∧ State.reset.ports.rst = false ∧
    State.reset.ports.cmdValid = false := by decide

theorem witness_TimerCountsDown :
    buildConforms (inFrame .data 3 7).cfg = true ∧ (inFrame .data 3 7).phase ≠ .idle ∧
    (inFrame .data 3 7).ports.rst = false ∧ 0 < (inFrame .data 3 7).timer := by decide

/-- One state per clause: SETUP, CLKL with a bit left, DATA, CLKH, CLKL with none left, LEH. -/
theorem witness_PhaseEnds :
    (∀ p : Phase, buildConforms (inFrame p 0 0).cfg = true ∧ (inFrame p 0 0).ports.rst = false ∧
      (inFrame p 0 0).timer = 0 ∧ (inFrame p 0 0).phase = p) ∧
    0 < (inFrame .setup 19 0).bitsLeft ∧ (inFrame .setup 19 0).timer = 0 ∧
    0 < (inFrame .clkl 1 0).bitsLeft ∧ (inFrame .clkl 1 0).timer = 0 ∧ (inFrame .clkl 0 0).bitsLeft = 0 := by
  refine ⟨fun p => ?_, by decide⟩
  cases p <;> decide

theorem witness_CommandEnds :
    (buildConforms (inFrame .lel 0 0).cfg = true ∧ (inFrame .lel 0 0).ports.rst = false ∧
      (inFrame .lel 0 0).phase = .lel ∧ (inFrame .lel 0 0).timer = 0 ∧ (inFrame .lel 0 0).op = .init) ∧
    (buildConforms (inNFrame .lel 0 0).cfg = true ∧ (inNFrame .lel 0 0).ports.rst = false ∧
      (inNFrame .lel 0 0).phase = .lel ∧ (inNFrame .lel 0 0).timer = 0 ∧ (inNFrame .lel 0 0).frame = .frN) := by decide

/-- A step that ends a command, and one that rejects. -/
theorem witness_PulsesAreSetOnlyByTheirEvents :
    after State.done (step (inNFrame .lel 0 0)) = some true ∧
    after (fun t => (t.done, t.errInvalid)) (step ((State.resetOf hardened).placeCommand 0x0BF)) =
      some (true, true) := by decide

/-- An idle block in which a command starts, one in which none is offered, and one that rejects. -/
theorem witness_AcceptanceIsVisible :
    (State.reset.placeCommand 0x00C).phase = .idle ∧ (State.reset.placeCommand 0x00C).ports.rst = false ∧
    after State.busy (step (State.reset.placeCommand 0x00C)) = some true ∧
    after State.busy (step State.reset) = some false ∧
    after (fun t => (t.done, t.busy)) (step ((State.resetOf hardened).placeCommand 0x0BF)) =
      some (true, false) := by decide

/-- A step inside a frame, with no reset and no accepted TUNE, has a next state. -/
theorem witness_OnlyTuneAndResetStoreResults :
    after State.refMode (step (inNFrame .data 3 7)) = some true ∧ (inNFrame .data 3 7).ports.rst = false ∧
    (inNFrame .data 3 7).phase ≠ .idle := by decide

/-- DATA changes from 1 to 0 where bit 5 of 0x08051 follows bit 6, and at a reset. -/
theorem witness_DataLineHolds :
    ((inFrame .clkl 6 0).pllData = true ∧ after State.pllData (step (inFrame .clkl 6 0)) = some false) ∧
    after State.pllData (step { inFrame .clkl 6 0 with inputs := [⟨true, false, 0⟩] }) = some false := by decide

theorem witness_BuildIsFixed : after State.phase (step State.reset) = some .idle := by decide

/-- A build that runs and one that is refused. -/
theorem witness_ConformingBuildsRun :
    buildConforms Config.reference = true ∧ buildConforms { Config.reference with nDsu := 19 } = false ∧
    step (State.resetOf { Config.reference with nDsu := 19 }) = .refused .nonconformingBuild := by
  refine ⟨by decide, by decide, rfl⟩

theorem witness_NoExceptionByDefault :
    buildConforms State.reset.cfg = true ∧ State.reset.cfg.validateChannel = false ∧
    ((State.resetOf hardened).placeCommand 0x1FF).phase = .idle ∧
    ((State.resetOf hardened).placeCommand 0x1FF).ports.cmdValid = true ∧
    ((State.resetOf hardened).placeCommand 0x1FF).ports.cmd.getLsbD 8 = true ∧
    buildConforms ((State.resetOf hardened).placeCommand 0x1FF).cfg = true := by decide

/-- The invariant holds at the end of a DATA phase. -/
theorem witness_inv_data : Inv (inFrame .data 6 0) where
  conforms := by decide
  timer_lt_max := by decide
  timer_lt_phase := by decide
  bits_left := by show 6 ≤ 18; decide
  clock := by decide
  latch := by decide
  n_word_c := by decide
  n_frame_of_tune := by decide
  done_idle := by decide
  err_done := by decide
  shreg := by decide
  data := by decide

/-- The invariant holds at the end of the last CLKL phase of an N frame. -/
theorem witness_inv_lastBit : Inv (inNFrame .clkl 0 0) where
  conforms := by decide
  timer_lt_max := by decide
  timer_lt_phase := by decide
  bits_left := by show 0 ≤ 18; decide
  clock := by decide
  latch := by decide
  n_word_c := by decide
  n_frame_of_tune := by decide
  done_idle := by decide
  err_done := by decide
  shreg := by decide
  data := by decide

theorem witness_StepKeepsInv : Inv (inFrame .data 6 0) ∧ ∃ t, step (inFrame .data 6 0) = .next t :=
  ⟨witness_inv_data, _, rfl⟩

theorem witness_ResetHasInv : buildConforms hardened = true := by decide

/-- The clock rises after a DATA phase; the latch rises after the last bit. -/
theorem witness_BusProtocol :
    (Inv (inFrame .data 6 0) ∧ (inFrame .data 6 0).pllClk = false ∧
      after State.pllClk (step (inFrame .data 6 0)) = some true) ∧
    (Inv (inNFrame .clkl 0 0) ∧ (inNFrame .clkl 0 0).pllLe = false ∧
      after State.pllLe (step (inNFrame .clkl 0 0)) = some true) :=
  ⟨⟨witness_inv_data, by decide⟩, ⟨witness_inv_lastBit, by decide⟩⟩

/-- The invariant holds in SETUP of an R frame, and in the latch phases of either frame. -/
theorem witness_inv_setup : Inv (inFrame .setup 19 1) :=
  ⟨by decide, by decide, by decide, rfl, by decide, by decide, by decide, by decide, by decide, by decide, by decide,
    by decide⟩

theorem witness_inv_leh : Inv (inFrame .leh 0 9) :=
  ⟨by decide, by decide, by decide, rfl, by decide, by decide, by decide, by decide, by decide, by decide, by decide,
    by decide⟩

theorem witness_inv_lel : Inv (inNFrame .lel 0 0) :=
  ⟨by decide, by decide, by decide, rfl, by decide, by decide, by decide, by decide, by decide, by decide, by decide,
    by decide⟩

/-- R and N frames; bits left from SETUP on, at both ends of the range; DATA; and both latch phases. -/
theorem witness_FramesGoToTheirRegister :
    (Inv (inFrame .setup 19 1) ∧ (inFrame .setup 19 1).frame = .frR ∧ (inFrame .setup 19 1).phase ≠ .idle ∧
      0 < (inFrame .setup 19 1).bitsLeft ∧ 18 < (inFrame .setup 19 1).bitsLeft) ∧
    (Inv (inFrame .data 6 0) ∧ (inFrame .data 6 0).phase ≠ .idle ∧ (inFrame .data 6 0).phase ≠ .setup) ∧
    (Inv (inFrame .leh 0 9) ∧ (inFrame .leh 0 9).phase = .leh ∧ (inFrame .leh 0 9).frame = .frR) ∧
    (Inv (inNFrame .lel 0 0) ∧ (inNFrame .lel 0 0).phase = .lel ∧ (inNFrame .lel 0 0).frame = .frN) :=
  ⟨⟨witness_inv_setup, by decide⟩, ⟨witness_inv_data, by decide⟩, ⟨witness_inv_leh, by decide⟩,
    ⟨witness_inv_lel, by decide⟩⟩

theorem witness_FrameWaveform :
    buildConforms State.reset.cfg = true ∧ State.reset.pllLe = false ∧
    ∀ p ∈ State.reset.inputs.take (frameLength State.reset.cfg), p.rst = false := by decide

theorem witness_FramesReadBack : buildConforms Config.reference = true := by decide

theorem witness_FrameTimingIgnoresTheWord :
    buildConforms (inFrame .data 6 0).cfg = true ∧
    ∀ p ∈ ({ inFrame .data 6 0 with inputs := [Input.offer 0x002] } : State).inputs.take (2 + 19 * 40 + 20),
      p.rst = false := by decide

/-- An idle block to which the host offers the word `w`, and a command for nothing in the next cycle. -/
def offered (w : CommandWord) : State := { State.reset with inputs := [Input.offer w, Input.offer 0x002] }

theorem witness_TuneBus :
    buildConforms (offered 0x00C).cfg = true ∧ (offered 0x00C).phase = .idle ∧ (offered 0x00C).pllLe = false ∧
    (offered 0x00C).inputs = Input.offer 0x00C :: [Input.offer 0x002] ∧ (Input.offer 0x00C).rst = false ∧
    (Input.offer 0x00C).cmdValid = true ∧ (Input.offer 0x00C).cmd.getLsbD 8 = false ∧
    (offered 0x00C).cfg.validateChannel = false ∧
    ∀ q ∈ [Input.offer 0x002].take (2 * frameLength (offered 0x00C).cfg), q.rst = false := by decide

theorem witness_InitBus :
    buildConforms (offered 0x100).cfg = true ∧ (offered 0x100).phase = .idle ∧ (offered 0x100).pllLe = false ∧
    (offered 0x100).inputs = Input.offer 0x100 :: [Input.offer 0x002] ∧ (Input.offer 0x100).rst = false ∧
    (Input.offer 0x100).cmdValid = true ∧ (Input.offer 0x100).cmd.getLsbD 8 = true ∧
    ∀ q ∈ [Input.offer 0x002].take (frameLength (offered 0x100).cfg), q.rst = false := by decide

/-- INIT in any build, and TUNE in a build that does not validate or with a channel in range. -/
theorem witness_CommandTiming :
    buildConforms (offered 0x00C).cfg = true ∧ (offered 0x00C).phase = .idle ∧
    (offered 0x00C).inputs = Input.offer 0x00C :: [Input.offer 0x002] ∧ (Input.offer 0x00C).rst = false ∧
    (Input.offer 0x00C).cmdValid = true ∧ (Input.offer 0x00C).cmd.getLsbD 8 = false ∧
    (Input.offer 0x100).cmd.getLsbD 8 = true ∧ (offered 0x00C).cfg.validateChannel = false ∧
    (1 ≤ ((0x00C#9).setWidth 8).toNat ∧ ((0x00C#9).setWidth 8).toNat ≤ 190) ∧
    ∀ q ∈ [Input.offer 0x002].take (2 * frameLength (offered 0x00C).cfg), q.rst = false := by decide

end Sys2Proof.Tests
end

section
/-! PROOF. The transfer buffer of 20_memory.md R39: the value of three bytes, and the split of a word into them. -/

namespace Sys2Proof

/-- R39's `buf`, in the order in which the rule writes its three terms. -/
theorem bufferValue_toNat (byte0 byte1 byte2 : Byte) :
    (bufferValue byte0 byte1 byte2).toNat =
      byte0.toNat ||| (byte1.toNat <<< 8) ||| (byte2.toNat <<< 16) := by
  have append_order : (bufferValue byte0 byte1 byte2).toNat =
      byte2.toNat <<< 16 ||| (byte1.toNat <<< 8 ||| byte0.toNat) := by
    rw [bufferValue, BitVec.toNat_append, BitVec.toNat_append]
  rw [append_order, Nat.lor_comm, Nat.lor_comm (byte1.toNat <<< 8)]

/-- Zeros above `byte2`'s own bits are zeros above the whole buffer. -/
theorem bufferValue_zero_append (byte0 byte1 : Byte) (x : BitVec 3) :
    bufferValue byte0 byte1 (0#5 ++ x) = (x ++ (byte1 ++ byte0)).setWidth 24 := by
  rw [BitVec.setWidth_eq_append (by decide)]
  exact BitVec.append_assoc

/-- The three pieces into which R39 cuts a word are adjacent, so together they are the word. -/
theorem serialWord_pieces_append (w : SerialWord) :
    w.extractLsb' 16 3 ++ (w.extractLsb' 8 8 ++ w.extractLsb' 0 8) = w := by
  have low : w.extractLsb' 8 8 ++ w.extractLsb' 0 8 = w.extractLsb' 0 16 :=
    BitVec.extractLsb'_append_extractLsb'_eq_extractLsb' rfl
  have whole : w.extractLsb' 16 3 ++ w.extractLsb' 0 16 = w.extractLsb' 0 19 :=
    BitVec.extractLsb'_append_extractLsb'_eq_extractLsb' rfl
  rw [low, whole, BitVec.extractLsb'_eq_self]

/-- Reading back the buffer of a serial word gives the word, with zeros in bits 23:19. -/
theorem bufferValue_of_serialWord (w : SerialWord) :
    bufferValue (w.extractLsb' 0 8) (w.extractLsb' 8 8) (0#5 ++ w.extractLsb' 16 3) = w.setWidth 24 := by
  rw [bufferValue_zero_append, serialWord_pieces_append]

/-- `byte2 = {00000, w[18:16]}` of R39 as a number: bits 18:16 are all that a 19-bit word has above bit 15. -/
theorem toNat_serialWord_byte2 (w : SerialWord) :
    (0#5 ++ w.extractLsb' 16 3 : Byte).toNat = w.toNat / 65536 := by
  have w_lt : w.toNat < 2 ^ 19 := w.isLt
  calc (0#5 ++ w.extractLsb' 16 3 : Byte).toNat
    _ = 0 <<< 3 ||| (w.extractLsb' 16 3).toNat := BitVec.toNat_append 0#5 (w.extractLsb' 16 3)
    _ = w.toNat / 65536 % 8 := by simp [BitVec.extractLsb'_toNat, Nat.shiftRight_eq_div_pow]
    _ = w.toNat / 65536 := by omega

/-- Settles O5: the bytes are the encoder's own; the buffer's value comes from the order of the appended bytes, and
the word is read back because its three pieces are adjacent. -/
theorem transferBufferLittleEndian : Obligations.TransferBufferLittleEndian := by
  refine ⟨bufferValue_toNat, fun w => ⟨w.extractLsb' 0 8, w.extractLsb' 8 8, 0#5 ++ w.extractLsb' 16 3,
    rfl, ?_, ?_, toNat_serialWord_byte2 w, bufferValue_of_serialWord w⟩⟩
  · simp [BitVec.extractLsb'_toNat]
  · simp [BitVec.extractLsb'_toNat, Nat.shiftRight_eq_div_pow]

end Sys2Proof
end

section
/-! PROOF. The decode of the command word (30_encoding.md R54): bit 8 alone tells the two commands apart. -/

namespace Sys2Proof

/-- R54's `TUNE` half: the channel is the low byte of the word. -/
theorem decodeCommand_of_bit8_clear {w : CommandWord} (bit8 : w.getLsbD 8 = false) :
    decodeCommand w = .tune (w.setWidth 8) := by
  rw [decodeCommand, if_neg (ne_true_of_eq_false bit8), BitVec.setWidth_eq_extractLsb' (by decide)]

/-- R54's `INIT` half: bits 7:0 do not matter. -/
theorem decodeCommand_of_bit8_set {w : CommandWord} (bit8 : w.getLsbD 8 = true) :
    decodeCommand w = .init :=
  if_pos bit8

/-- Settles O2, by the value of bit 8. Every word with bit 8 set decodes to `INIT`, as `0x100` does, and `exec` sees
only the decoded command. -/
theorem commandDecodeTotal : Obligations.CommandDecodeTotal := by
  refine fun w => ⟨decodeCommand_of_bit8_clear, fun bit8 => ⟨decodeCommand_of_bit8_set bit8, fun s => ?_⟩⟩
  have same_command : decodeCommand w = decodeCommand 0x100 :=
    (decodeCommand_of_bit8_set bit8).trans (decodeCommand_of_bit8_set (by decide)).symm
  rw [same_command]

end Sys2Proof
end

section
/-! PROOF. COMPUTE's results in the arithmetic of R72-R79, and the state an in-range TUNE leaves (R84). -/

namespace Sys2Proof.Machine

/-- R72, without the `+ 1 - 1` of the source. -/
theorem dialCounter_eq (ch : BitVec 8) : dialCounter ch = 880 + ch.toNat := by
  rw [dialCounter]
  omega

/-- R75 with its equality as a proposition. -/
theorem needsCorrection_eq (onTie : Bool) (b a : Nat) :
    needsCorrection onTie b a = (decide (b < a) || (onTie && decide (b = a))) := by
  rw [needsCorrection, beq_eq_decide]

/-- R79: A stays below bit 7, so the OR of the packing is a sum. -/
theorem packN_eq_sum {b a : Nat} (a_lt : a < 128) : packN b a = BitVec.ofNat 19 (256 * b + 2 * a) := by
  have or_eq_add : (b <<< 7) ||| a = (b <<< 7) + a := (Nat.shiftLeft_add_eq_or_of_lt a_lt b).symm
  rw [packN, or_eq_add, Nat.shiftLeft_eq, Nat.shiftLeft_eq]
  congr 1
  omega

/-- R57 after R79: the packed A is read back. -/
theorem unpackA_packN {b a : Nat} (a_lt : a < 128) : unpackA (packN b a) = a := by
  have mask_eq_mod (x : Nat) : x &&& 0x7F = x % 128 := Nat.and_two_pow_sub_one_eq_mod x 7
  rw [unpackA, packN_eq_sum a_lt, mask_eq_mod, BitVec.toNat_ofNat, Nat.shiftRight_eq_div_pow]
  omega

/-- R57 after R79: the packed B is read back. -/
theorem unpackB_packN {b a : Nat} (b_lt : b < 2048) (a_lt : a < 128) : unpackB (packN b a) = b := by
  have mask_eq_mod (x : Nat) : x &&& 0x7FF = x % 2048 := Nat.and_two_pow_sub_one_eq_mod x 11
  rw [unpackB, packN_eq_sum a_lt, mask_eq_mod, BitVec.toNat_ofNat, Nat.shiftRight_eq_div_pow]
  omega

/-- R75 on the counter of R72. -/
theorem compute_r (onTie : Bool) (ch : BitVec 8) :
    (compute onTie ch).r = needsCorrection onTie ((880 + ch.toNat) / 32) ((880 + ch.toNat) % 32) := by
  rw [← dialCounter_eq]
  rfl

/-- R79 on the split of R74 or R76; a remainder by 32 always fits A's field. -/
theorem compute_n (onTie : Bool) (ch : BitVec 8) :
    (compute onTie ch).n = BitVec.ofNat 19
      (256 * (splitCount onTie (880 + ch.toNat) / 32) + 2 * (splitCount onTie (880 + ch.toNat) % 32)) := by
  rw [← dialCounter_eq]
  exact packN_eq_sum ((Nat.mod_lt _ (by decide)).trans (by decide))

/-- R78 on the counter of R72. -/
theorem compute_d (onTie : Bool) (ch : BitVec 8) : (compute onTie ch).d = BitVec.ofNat 16 (880 + ch.toNat) := by
  rw [← dialCounter_eq]
  rfl

/-- R92 with the two words of R85. -/
theorem shreg_of_select (r : Bit) :
    (select r).setWidth 24 <<< 5 = if r then 0x101420#24 else 0x100A20#24 := by
  cases r <;> rfl

/-- R113: everything a TUNE that is not rejected writes, given its results. -/
theorem State.beginTune_eq (r : Bit) (n : SerialWord) (d : BitVec 16) (s : State) :
    s.beginTune r n d = { s with
      refMode := r, nWord := n, dial := d, op := .tune, frame := .frR, phase := .setup, timer := s.cfg.nPre - 1
      shreg := if r then 0x101420#24 else 0x100A20#24, bitsLeft := 19, pllClk := false } := by
  rw [← shreg_of_select]
  rfl

/-- R55's range as the two bounds the statements assume. -/
theorem inRange_of_bounds {ch : BitVec 8} (ch_ge : 1 ≤ ch.toNat) (ch_le : ch.toNat ≤ 190) : inRange ch = true := by
  simp [inRange, ch_ge, ch_le]

/-- R113 for an in-range channel: COMPUTE's results are the ones stored. -/
theorem exec_tune_of_bounds {ch : BitVec 8} (s : State) (ch_ge : 1 ≤ ch.toNat) (ch_le : ch.toNat ≤ 190) :
    exec (.tune ch) s = .next (s.clearPulses.beginTune (compute s.cfg.correctOnTie ch).r
      (compute s.cfg.correctOnTie ch).n (compute s.cfg.correctOnTie ch).d) := by
  rw [exec, execTune_eq, if_pos (inRange_of_bounds ch_ge ch_le)]

/-- Settles O9: COMPUTE's results are the written-out arithmetic of R72-R79, and `beginTune` stores them and starts the
frame. -/
theorem tuneInRange : Obligations.TuneInRange := by
  intro ch s ch_ge ch_le f r g
  have r_eq : needsCorrection s.cfg.correctOnTie (f / 32) (f % 32) = r := needsCorrection_eq _ _ _
  have g_eq : splitCount s.cfg.correctOnTie f = g := congrArg (fun b : Bool => if b then 2 * f else f) r_eq
  rw [exec_tune_of_bounds s ch_ge ch_le, compute_r, compute_n, compute_d, r_eq, g_eq, State.beginTune_eq]
  rfl

end Sys2Proof.Machine
end

section
/-! PROOF. The divider pairs of R82. One idea carries the correction path: where the naive remainder A is at least 16,
doubling the count 32 × B + A carries exactly once, to 32 × (2 × B + 1) + (2 × A - 32). -/

namespace Sys2Proof.Machine

/-- The channels and pairs (channel, B, A) of R82's first bullet: corrected in every build. -/
def correctedPairs : List (Nat × Nat × Nat) :=
  [(12, 55, 24), (13, 55, 26), (14, 55, 28), (15, 55, 30), (45, 57, 26), (46, 57, 28), (47, 57, 30),
    (78, 59, 28), (79, 59, 30), (111, 61, 30)]

/-- The tie channels of R82's second bullet, with B = A. -/
def tiePairs : List (Nat × Nat) := [(11, 27), (44, 28), (77, 29), (110, 30), (143, 31)]

/-- The pairs to which a build with `CORRECT_ON_TIE` corrects the ties (R82's last bullet). -/
def tieCorrectedPairs : List (Nat × Nat × Nat) :=
  [(11, 55, 22), (44, 57, 24), (77, 59, 26), (110, 61, 28), (143, 63, 30)]

/-- R76 on the pairs of the ties. -/
theorem tieCorrectedPairs_eq_map :
    tieCorrectedPairs = tiePairs.map fun p => (p.1, 2 * p.2 + 1, 2 * p.2 - 32) := rfl

/-- `B` and `A` are the naive split (R74) of the count of the in-range channel `c`. -/
structure NaiveSplit (c B A : Nat) : Prop where
  channel_ge : 1 ≤ c
  channel_le : c ≤ 190
  count : 880 + c = 32 * B + A
  fine_lt : A < 32

/-- The flag and the pair COMPUTE answers for channel `c`, told by R77 or by R76 from the naive split. -/
inductive TunedPair (onTie : Bool) (c : Nat) : Bit → Nat → Nat → Prop
  | naive {B A : Nat} : NaiveSplit c B A → needsCorrection onTie B A = false → TunedPair onTie c false B A
  | corrected {B A : Nat} : NaiveSplit c B A → needsCorrection onTie B A = true →
      TunedPair onTie c true (2 * B + 1) (2 * A - 32)

theorem naiveSplit_dialCounter {ch : BitVec 8} (ch_ge : 1 ≤ ch.toNat) (ch_le : ch.toNat ≤ 190) :
    NaiveSplit ch.toNat (coarse (dialCounter ch)) (fine (dialCounter ch)) where
  channel_ge := ch_ge
  channel_le := ch_le
  count := by rw [← dialCounter_eq]; exact (Nat.div_add_mod _ _).symm
  fine_lt := Nat.mod_lt _ (by decide)

theorem needsCorrection_strict (B A : Nat) : needsCorrection false B A = decide (B < A) := by
  simp [needsCorrection_eq]

theorem needsCorrection_onTie (B A : Nat) : needsCorrection true B A = decide (B ≤ A) := by
  simp [needsCorrection_eq, Nat.le_iff_lt_or_eq]

/-- In no build is a pair with A below B corrected (R75). -/
theorem le_of_needsCorrection {onTie : Bool} {B A : Nat} (corrected : needsCorrection onTie B A = true) : B ≤ A := by
  cases onTie with
  | false => exact Nat.le_of_lt (by simpa [needsCorrection_strict] using corrected)
  | true => simpa [needsCorrection_onTie] using corrected

namespace NaiveSplit

variable {c B A : Nat} (h : NaiveSplit c B A)
include h

theorem coarse_bounds : 27 ≤ B ∧ B ≤ 33 := by
  obtain ⟨channel_ge, channel_le, count, fine_lt⟩ := h
  omega

/-- Above the diagonal only B = 27..30 leave an A below 32; the four blocks have 4, 3, 2 and 1 channels. -/
theorem corrected_mem (lt : B < A) : (c, 2 * B + 1, 2 * A - 32) ∈ correctedPairs := by
  have B_ge : 27 ≤ B := h.coarse_bounds.1
  have A_lt : A < 32 := h.fine_lt
  have B_le : B ≤ 30 := by omega
  have count := h.count
  have c_eq : c = 32 * B + A - 880 := by omega
  rw [c_eq]
  clear c_eq count h
  interval_cases B <;> interval_cases A <;> decide

/-- R75's strict condition picks out the ten channels. -/
theorem lt_iff_mem_corrected : B < A ↔ c ∈ correctedPairs.map Prod.fst := by
  refine ⟨fun lt => List.mem_map_of_mem (h.corrected_mem lt), fun mem => ?_⟩
  obtain ⟨channel_ge, channel_le, count, fine_lt⟩ := h
  simp only [correctedPairs, List.map_cons, List.map_nil, List.mem_cons, List.not_mem_nil, or_false] at mem
  omega

theorem eq_iff_count : A = B ↔ 880 + c = 33 * B := by
  obtain ⟨channel_ge, channel_le, count, fine_lt⟩ := h
  omega

theorem tie_mem (tie : A = B) : (c, B) ∈ tiePairs := by
  obtain ⟨channel_ge, channel_le, count, fine_lt⟩ := h
  simp only [tiePairs, List.mem_cons, List.not_mem_nil, Prod.mk.injEq, or_false]
  omega

theorem eq_iff_mem_ties : A = B ↔ c ∈ tiePairs.map Prod.fst := by
  refine ⟨fun tie => List.mem_map_of_mem (h.tie_mem tie), fun mem => ?_⟩
  obtain ⟨channel_ge, channel_le, count, fine_lt⟩ := h
  simp only [tiePairs, List.map_cons, List.map_nil, List.mem_cons, List.not_mem_nil, or_false] at mem
  omega

theorem tieCorrected_mem (tie : A = B) : (c, 2 * B + 1, 2 * A - 32) ∈ tieCorrectedPairs := by
  rw [tie, tieCorrectedPairs_eq_map]
  exact List.mem_map_of_mem (f := fun p => (p.1, 2 * p.2 + 1, 2 * p.2 - 32)) (h.tie_mem tie)

end NaiveSplit

/-- The doubling of R76: a remainder of 16 or more carries once into the quotient. -/
theorem split_double {f : Nat} (carry : 16 ≤ fine f) :
    coarse (2 * f) = 2 * coarse f + 1 ∧ fine (2 * f) = 2 * fine f - 32 := by
  simp only [coarse, fine, prescale] at *
  omega

/-- COMPUTE by the two paths of R76 and R77. On the correction path A ≥ B ≥ 27, so the doubling carries. -/
theorem compute_tunedPair (onTie : Bool) {ch : BitVec 8} (ch_ge : 1 ≤ ch.toNat) (ch_le : ch.toNat ≤ 190) :
    TunedPair onTie ch.toNat (compute onTie ch).r (compute onTie ch).b (compute onTie ch).a := by
  have split := naiveSplit_dialCounter ch_ge ch_le
  simp only [compute, splitCount]
  cases path : needsCorrection onTie (coarse (dialCounter ch)) (fine (dialCounter ch)) with
  | false => exact .naive split path
  | true =>
    have carry : 16 ≤ fine (dialCounter ch) := by
      have := split.coarse_bounds
      have := le_of_needsCorrection path
      omega
    obtain ⟨b_eq, a_eq⟩ := split_double carry
    simpa only [if_true, b_eq, a_eq] using TunedPair.corrected split path

namespace TunedPair

variable {onTie : Bool} {c b a : Nat} {r : Bit}

/-- Every pair fits the fields of the N word (R79). -/
theorem fits (h : TunedPair onTie c r b a) : b < 2048 ∧ a < 128 := by
  cases h with
  | naive split path | corrected split path =>
    have := split.coarse_bounds
    have := split.fine_lt
    omega

section Strict
/-! The default build corrects below the tie only. -/

variable (h : TunedPair false c r b a)
include h

/-- Both paths, with R75's condition as an inequality. -/
theorem strict_cases : ∃ B A, NaiveSplit c B A ∧
    ((r = false ∧ b = B ∧ a = A ∧ A ≤ B) ∨ (r = true ∧ b = 2 * B + 1 ∧ a = 2 * A - 32 ∧ B < A)) := by
  cases h with
  | naive split path => exact ⟨_, _, split, .inl ⟨rfl, rfl, rfl, by simpa [needsCorrection_strict] using path⟩⟩
  | corrected split path => exact ⟨_, _, split, .inr ⟨rfl, rfl, rfl, by simpa [needsCorrection_strict] using path⟩⟩

theorem strict_refMode_iff : r = true ↔ c ∈ correctedPairs.map Prod.fst := by
  obtain ⟨B, A, split, ⟨rfl, rfl, rfl, le⟩ | ⟨rfl, rfl, rfl, lt⟩⟩ := h.strict_cases
  · simpa [← split.lt_iff_mem_corrected] using le
  · simpa [← split.lt_iff_mem_corrected] using lt

theorem strict_pair_mem (refMode : r = true) : (c, b, a) ∈ correctedPairs := by
  obtain ⟨B, A, split, ⟨rfl, rfl, rfl, le⟩ | ⟨rfl, rfl, rfl, lt⟩⟩ := h.strict_cases
  · contradiction
  · exact split.corrected_mem lt

/-- A tie is never the result of a correction, which leaves B odd and A even. -/
theorem strict_naive_of_eq (tie : a = b) : r = false ∧ NaiveSplit c b a := by
  obtain ⟨B, A, split, ⟨rfl, rfl, rfl, le⟩ | ⟨rfl, rfl, rfl, lt⟩⟩ := h.strict_cases
  · exact ⟨rfl, split⟩
  · omega

theorem strict_tie_mem (tie : a = b) : (c, b) ∈ tiePairs :=
  (h.strict_naive_of_eq tie).2.tie_mem tie

theorem strict_eq_iff_mem_ties : a = b ↔ c ∈ tiePairs.map Prod.fst := by
  refine ⟨fun tie => List.mem_map_of_mem (h.strict_tie_mem tie), fun mem => ?_⟩
  obtain ⟨B, A, split, ⟨rfl, rfl, rfl, le⟩ | ⟨rfl, rfl, rfl, lt⟩⟩ := h.strict_cases
  · exact split.eq_iff_mem_ties.mpr mem
  · exact absurd (split.eq_iff_mem_ties.mpr mem) lt.ne'

theorem strict_eq_iff_count : a = b ↔ r = false ∧ 880 + c = 33 * b := by
  obtain ⟨B, A, split, ⟨rfl, rfl, rfl, le⟩ | ⟨rfl, rfl, rfl, lt⟩⟩ := h.strict_cases
  · simpa using split.eq_iff_count
  · have no_tie : 2 * A - 32 ≠ 2 * B + 1 := by omega
    simpa using no_tie

theorem strict_bounds : a ≤ b ∧ 27 ≤ b ∧ b ≤ 61 ∧ a ≤ 31 := by
  obtain ⟨B, A, split, ⟨rfl, rfl, rfl, le⟩ | ⟨rfl, rfl, rfl, lt⟩⟩ := h.strict_cases
  all_goals
    have := split.coarse_bounds
    have := split.fine_lt
    omega

theorem strict_naive_le (refMode : r = false) : b ≤ 33 := by
  obtain ⟨B, A, split, ⟨rfl, rfl, rfl, le⟩ | ⟨rfl, rfl, rfl, lt⟩⟩ := h.strict_cases
  · exact split.coarse_bounds.2
  · contradiction

theorem strict_corrected_ge (refMode : r = true) : 55 ≤ b ∧ a % 2 = 0 := by
  obtain ⟨B, A, split, ⟨rfl, rfl, rfl, le⟩ | ⟨rfl, rfl, rfl, lt⟩⟩ := h.strict_cases
  · contradiction
  · have := split.coarse_bounds
    omega

/-- A correction leaves A ≥ 24, so A = 0 is a naive remainder of 0. -/
theorem strict_fine_eq_zero_iff_count : a = 0 ↔ (880 + c) % 32 = 0 := by
  obtain ⟨B, A, split, ⟨rfl, rfl, rfl, le⟩ | ⟨rfl, rfl, rfl, lt⟩⟩ := h.strict_cases
  all_goals
    have := split.coarse_bounds
    have := split.fine_lt
    have := split.count
    omega

theorem strict_fine_eq_zero_iff_mem : a = 0 ↔ c ∈ [16, 48, 80, 112, 144, 176] := by
  obtain ⟨B, A, split, -⟩ := h.strict_cases
  have := split.channel_ge
  have := split.channel_le
  rw [h.strict_fine_eq_zero_iff_count]
  simp only [List.mem_cons, List.not_mem_nil, or_false]
  omega

end Strict

section OnTie
/-! A build with `CORRECT_ON_TIE` corrects the tie as well. -/

variable (h : TunedPair true c r b a)
include h

/-- Both paths, with R75's condition as an inequality. -/
theorem onTie_cases : ∃ B A, NaiveSplit c B A ∧
    ((r = false ∧ b = B ∧ a = A ∧ A < B) ∨ (r = true ∧ b = 2 * B + 1 ∧ a = 2 * A - 32 ∧ B ≤ A)) := by
  cases h with
  | naive split path => exact ⟨_, _, split, .inl ⟨rfl, rfl, rfl, by simpa [needsCorrection_onTie] using path⟩⟩
  | corrected split path => exact ⟨_, _, split, .inr ⟨rfl, rfl, rfl, by simpa [needsCorrection_onTie] using path⟩⟩

theorem onTie_lt : a < b := by
  obtain ⟨B, A, split, ⟨rfl, rfl, rfl, lt⟩ | ⟨rfl, rfl, rfl, le⟩⟩ := h.onTie_cases
  · exact lt
  · have := split.coarse_bounds
    have := split.fine_lt
    omega

theorem onTie_refMode_iff : r = true ↔ c ∈ correctedPairs.map Prod.fst ∨ c ∈ tiePairs.map Prod.fst := by
  obtain ⟨B, A, split, ⟨rfl, rfl, rfl, lt⟩ | ⟨rfl, rfl, rfl, le⟩⟩ := h.onTie_cases
  all_goals rw [← split.lt_iff_mem_corrected, ← split.eq_iff_mem_ties]
  · simp only [Bool.false_eq_true, false_iff]
    omega
  · simp only [true_iff]
    omega

theorem onTie_pair_mem (refMode : r = true) : (c, b, a) ∈ correctedPairs ∨ (c, b, a) ∈ tieCorrectedPairs := by
  obtain ⟨B, A, split, ⟨rfl, rfl, rfl, lt⟩ | ⟨rfl, rfl, rfl, le⟩⟩ := h.onTie_cases
  · contradiction
  · obtain lt | tie := Nat.lt_or_eq_of_le le
    · exact .inl (split.corrected_mem lt)
    · exact .inr (split.tieCorrected_mem tie.symm)

end OnTie

end TunedPair

/-- Settles O15: what TUNE stores is COMPUTE's pair, packed; R82's bullets are those of the two paths of COMPUTE, in
each kind of build. -/
theorem dividerPairs : Obligations.DividerPairs := by
  intro ch s ch_ge ch_le
  refine ⟨_, exec_tune_of_bounds s ch_ge ch_le, ?_⟩
  have pair := compute_tunedPair s.cfg.correctOnTie ch_ge ch_le
  have b_eq : unpackB (compute s.cfg.correctOnTie ch).n = (compute s.cfg.correctOnTie ch).b :=
    unpackB_packN pair.fits.1 pair.fits.2
  have a_eq : unpackA (compute s.cfg.correctOnTie ch).n = (compute s.cfg.correctOnTie ch).a :=
    unpackA_packN pair.fits.2
  have dial_eq : (compute s.cfg.correctOnTie ch).d.toNat = 880 + ch.toNat := by
    rw [compute_d, BitVec.toNat_ofNat]
    omega
  refine ⟨b_eq, a_eq, dial_eq, ?_⟩
  rw [State.beginTune_nWord, State.beginTune_refMode, b_eq, a_eq]
  refine ⟨fun strict => ?_, fun onTie => ?_⟩
  · rw [strict] at pair ⊢
    obtain ⟨le, b_ge, b_le, a_le⟩ := pair.strict_bounds
    exact ⟨pair.strict_refMode_iff, pair.strict_pair_mem, pair.strict_eq_iff_mem_ties, pair.strict_tie_mem,
      pair.strict_eq_iff_count, le, b_ge, b_le, a_le, pair.strict_naive_le, pair.strict_corrected_ge,
      pair.strict_fine_eq_zero_iff_mem, pair.strict_fine_eq_zero_iff_count⟩
  · rw [onTie] at pair ⊢
    exact ⟨pair.onTie_lt, pair.onTie_refMode_iff, pair.onTie_pair_mem⟩

end Sys2Proof.Machine
end

section
/-! PROOF. The frame on the bus (42_serializer.md R92-R100): the states a frame goes through, cycle by cycle, and what
they show on the three lines. -/

namespace Sys2Proof.Machine

/-! ### Paths of steps -/

/-- From `s` the block goes through the states `us`, one in each cycle, and is then in `t`. -/
inductive Path : State → List State → State → Prop where
  | nil (s : State) : Path s [] s
  | cons {s t u : State} {us : List State} (first : step s = .next t) (rest : Path t us u) : Path s (s :: us) u

theorem Path.append {s t u : State} {us vs : List State} (front : Path s us t) (back : Path t vs u) :
    Path s (us ++ vs) u := by
  induction front with
  | nil => exact back
  | cons first _ ih => exact .cons first (ih back)

/-- What a record shows along a path: its states, and then the record from where it ends. -/
theorem Path.record_eq {α : Type} (view : State → α) {s t : State} {us : List State} (path : Path s us t) (k : Nat) :
    record view (us.length + k) s = us.map view ++ record view k t := by
  induction path with
  | nil => simp
  | cons first _ ih => rw [List.length_cons, Nat.add_right_comm, record_succ view _ first, ih]; rfl

/-! ### The pulses do not matter to what follows -/

/-- Every edge overwrites the two pulses (43_commands.md R118), so no step depends on them. -/
theorem step_clearPulses (s : State) : step s.clearPulses = step s := by
  have exec_eq : ∀ i, exec i s.clearPulses.dropInput = exec i s.dropInput := by
    intro i
    cases i <;> rfl
  simp only [step, clockStep, clockEdge, State.dropInput_phase, State.clearPulses_phase]
  rw [exec_eq]
  rfl

/-- A record that does not show the pulses is the same whatever they are at first. -/
theorem record_clearPulses {α : Type} {view : State → α} (blind : ∀ u : State, view u.clearPulses = view u)
    (k : Nat) (s : State) : record view k s.clearPulses = record view k s := by
  cases k with
  | zero => rfl
  | succ k => simp only [record, blind, step_clearPulses]

/-! ### The states of a frame -/

/-- The frame that carries `w`, started in `s`, `i` cycles after its first: in phase `p`, which lasts `r` cycles more,
with `j` bits not yet placed on DATA. A frame leaves LATCH_ENABLE as it found it until LEH (42_serializer.md R92-R97). -/
def frameState (s : State) (w : SerialWord) (p : Phase) (j i r : Nat) : State :=
  { s with
    inputs := s.inputs.drop i
    phase := p
    shreg := w.setWidth 24 <<< (24 - j)
    bitsLeft := j
    timer := r
    pllClk := decide (p = .clkh)
    pllLe := decide (p = .leh) || decide (p ≠ .lel) && s.pllLe
    pllData := if p = .setup then s.pllData else w.getLsbD j
    done := false
    errInvalid := false }

/-- The last `n` cycles of phase `p` of a frame, from cycle `i` of the frame on. -/
def phaseStates (s : State) (w : SerialWord) (p : Phase) (j : Nat) : Nat → Nat → List State
  | _, 0 => []
  | i, n + 1 => frameState s w p j i n :: phaseStates s w p j (i + 1) n

/-- The cycles of one bit: its DATA, CLKH and CLKL phases (42_serializer.md R100). -/
def bitCycles (c : Config) : Nat := c.nDsu + c.nCh + c.nCl

/-- The cycles of the last `j` bits of a frame, from cycle `i` of the frame on. -/
def bitStates (s : State) (w : SerialWord) : Nat → Nat → List State
  | 0, _ => []
  | j + 1, i =>
    phaseStates s w .data j i s.cfg.nDsu ++
    (phaseStates s w .clkh j (i + s.cfg.nDsu) s.cfg.nCh ++
    phaseStates s w .clkl j (i + s.cfg.nDsu + s.cfg.nCh) s.cfg.nCl) ++
    bitStates s w j (i + bitCycles s.cfg)

/-- The cycle of a frame in which its LEH phase begins. -/
def latchCycle (c : Config) : Nat := c.nPre + 19 * bitCycles c

/-- All cycles of the frame that carries `w` and was started in `s`. -/
def frameStates (s : State) (w : SerialWord) : List State :=
  phaseStates s w .setup 19 0 s.cfg.nPre ++
  (bitStates s w 19 s.cfg.nPre ++
  (phaseStates s w .leh 0 (latchCycle s.cfg) s.cfg.nLeh ++
  phaseStates s w .lel 0 (latchCycle s.cfg + s.cfg.nLeh) s.cfg.nLel))

theorem frameLength_eq (c : Config) : frameLength c = latchCycle c + c.nLeh + c.nLel := rfl

section Length

variable (s : State) (w : SerialWord)

@[simp] theorem length_phaseStates (p : Phase) (j i n : Nat) : (phaseStates s w p j i n).length = n := by
  induction n generalizing i with
  | zero => rfl
  | succ n ih => simp [phaseStates, ih]

@[simp] theorem length_bitStates (j i : Nat) : (bitStates s w j i).length = j * bitCycles s.cfg := by
  induction j generalizing i with
  | zero => simp [bitStates]
  | succ j ih => simp only [bitStates, List.length_append, length_phaseStates, ih, bitCycles]; ring

theorem length_frameStates : (frameStates s w).length = frameLength s.cfg := by
  simp only [frameStates, List.length_append, length_phaseStates, length_bitStates, frameLength_eq, latchCycle]
  ring

/-- A frame begins in the first cycle of SETUP, with the pulses clear. -/
theorem clearPulses_startFrame : (s.startFrame w).clearPulses = frameState s w .setup 19 0 (s.cfg.nPre - 1) := by
  simp [frameState, State.startFrame, State.enter, State.clearPulses]

end Length

/-! ### The path of a frame -/

/-- No reset comes in the first `n` cycles from `s` on. -/
def NoResetFor (s : State) (n : Nat) : Prop := ∀ i < n, ((s.inputs.drop i).headD Input.quiet).rst = false

/-- The ports are quiet after the end of the list, so only the listed inputs can bring a reset. -/
theorem noResetFor_of_take {s : State} {n : Nat} (noReset : ∀ p ∈ s.inputs.take n, p.rst = false) :
    NoResetFor s n := by
  intro i i_lt
  rw [List.headD_eq_head?_getD, List.head?_drop]
  cases input : s.inputs[i]? with
  | none => rfl
  | some p => exact noReset p (List.mem_of_getElem? (i := i) (by rw [List.getElem?_take_of_lt i_lt, input]))

/-- Entering DATA from SETUP or from CLKL places bit `j`, the top of the shift register (42_serializer.md R94, R102). -/
theorem enterData_frameState (s : State) (w : SerialWord) {p : Phase} {j : Nat} (j_lt : j < 19) (i r : Nat)
    (before : p = .setup ∨ p = .clkl) :
    (frameState s w p (j + 1) i r).enterData = frameState s w .data j i (s.cfg.nDsu - 1) := by
  have top_bit : (w.setWidth 24 <<< (24 - (j + 1))).getLsbD 23 = w.getLsbD j := by
    have offset : 23 - (24 - (j + 1)) = j := by omega
    have in_word : 24 - (j + 1) ≤ 23 ∧ j < 24 := by omega
    simp only [BitVec.getLsbD_shiftLeft, BitVec.getLsbD_setWidth, offset]
    simp [in_word]
  have shifted : w.setWidth 24 <<< (24 - (j + 1)) <<< 1 = w.setWidth 24 <<< (24 - j) := by
    rw [← BitVec.shiftLeft_add]
    congr 1
    omega
  rcases before with rfl | rfl <;> simp only [frameState, State.enterData, State.enter, top_bit, shifted] <;> rfl

section Run

variable {s : State} (w : SerialWord) {len : Nat}
variable (conforms : buildConforms s.cfg = true) (noReset : NoResetFor s len)
include conforms noReset

/-- The last `n` cycles of a phase: the timer counts down, and the exit action comes when it has run out
(42_serializer.md R99). -/
theorem remaining_path {p : Phase} (running : p ≠ .idle) {j n : Nat} (n_pos : 0 < n) {t : State} :
    ∀ {i : Nat}, i + n ≤ len → phaseEnd (frameState s w p j (i + n) 0) = .next t →
      Path (frameState s w p j i (n - 1)) (phaseStates s w p j i n) t := by
  induction n, n_pos using Nat.le_induction with
  | base =>
    intro i within ends
    have last : step (frameState s w p j i 0) = .next t := by
      rw [step_phaseEnd (s := frameState s w p j i 0) conforms (noReset i (by omega)) running rfl, ← ends]
      simp [frameState, State.dropInput, State.clearPulses]
    exact .cons last (.nil t)
  | succ n n_pos ih =>
    intro i within ends
    have wait : step (frameState s w p j i n) = .next (frameState s w p j (i + 1) (n - 1)) := by
      rw [step_countDown (s := frameState s w p j i n) conforms (noReset i (by omega)) running n_pos]
      simp [frameState, State.dropInput, State.clearPulses, State.countDown]
    exact .cons wait (ih (by omega) (by rwa [Nat.add_right_comm, Nat.add_assoc]))

/-- A phase takes its whole length (42_serializer.md R99), which in a conforming build is no empty one. -/
theorem phase_path (p : Phase) (j i n : Nat) (running : p ≠ .idle) (length_eq : phaseCycles s.cfg p = n)
    (within : i + n ≤ len) {t : State} (ends : phaseEnd (frameState s w p j (i + n) 0) = .next t) :
    Path (frameState s w p j i (n - 1)) (phaseStates s w p j i n) t :=
  remaining_path w conforms noReset running (length_eq ▸ phaseCycles_pos conforms running) within ends

/-- One bit: DATA, CLKH and CLKL (42_serializer.md R94, R95). -/
theorem bit_path {j i : Nat} (within : i + bitCycles s.cfg ≤ len) {t : State}
    (ends : phaseEnd (frameState s w .clkl j (i + bitCycles s.cfg) 0) = .next t) :
    Path (frameState s w .data j i (s.cfg.nDsu - 1))
      (phaseStates s w .data j i s.cfg.nDsu ++
      (phaseStates s w .clkh j (i + s.cfg.nDsu) s.cfg.nCh ++
      phaseStates s w .clkl j (i + s.cfg.nDsu + s.cfg.nCh) s.cfg.nCl)) t := by
  unfold bitCycles at within ends
  rw [← Nat.add_assoc, ← Nat.add_assoc] at ends
  have data := phase_path w conforms noReset .data j i s.cfg.nDsu (by decide) rfl (by omega) rfl
  have clkh := phase_path w conforms noReset .clkh j (i + s.cfg.nDsu) s.cfg.nCh (by decide) rfl (by omega) rfl
  have clkl := phase_path w conforms noReset .clkl j _ s.cfg.nCl (by decide) rfl (by omega) ends
  exact data.append (clkh.append clkl)

/-- The last `j + 1` bits of a frame, from the first DATA phase among them up to LEH (42_serializer.md R94-R96). -/
theorem bits_path {j : Nat} (j_lt : j < 19) {i : Nat} (within : i + (j + 1) * bitCycles s.cfg ≤ len) :
    Path (frameState s w .data j i (s.cfg.nDsu - 1)) (bitStates s w (j + 1) i)
      (frameState s w .leh 0 (i + (j + 1) * bitCycles s.cfg) (s.cfg.nLeh - 1)) := by
  induction j generalizing i with
  | zero =>
    rw [Nat.zero_add, Nat.one_mul] at within ⊢
    exact (bit_path w conforms noReset within rfl).append (.nil _)
  | succ j ih =>
    have cycles : i + (j + 1 + 1) * bitCycles s.cfg = i + bitCycles s.cfg + (j + 1) * bitCycles s.cfg := by ring
    rw [cycles] at within ⊢
    have next_bit : phaseEnd (frameState s w .clkl (j + 1) (i + bitCycles s.cfg) 0) =
        .next (frameState s w .data j (i + bitCycles s.cfg) (s.cfg.nDsu - 1)) :=
      congrArg _ (enterData_frameState s w (by omega) _ _ (.inr rfl))
    exact (bit_path w conforms noReset (by omega) next_bit).append (ih (by omega) within)

/-- The whole frame, up to what the end of its LEL phase answers (42_serializer.md R92-R97). -/
theorem frame_path (within : frameLength s.cfg ≤ len) {t : State}
    (ends : phaseEnd (frameState s w .lel 0 (frameLength s.cfg) 0) = .next t) :
    Path (frameState s w .setup 19 0 (s.cfg.nPre - 1)) (frameStates s w) t := by
  have length_eq := frameLength_eq s.cfg
  have latch_eq : latchCycle s.cfg = s.cfg.nPre + 19 * bitCycles s.cfg := rfl
  have first_bit : phaseEnd (frameState s w .setup 19 (0 + s.cfg.nPre) 0) =
      .next (frameState s w .data 18 s.cfg.nPre (s.cfg.nDsu - 1)) := by
    rw [Nat.zero_add]
    exact congrArg _ (enterData_frameState s w (by decide) _ _ (.inl rfl))
  have setup := phase_path w conforms noReset .setup 19 0 s.cfg.nPre (by decide) rfl (by omega) first_bit
  have bits := bits_path w conforms noReset (j := 18) (i := s.cfg.nPre) (by decide) (by omega)
  have leh := phase_path w conforms noReset .leh 0 (latchCycle s.cfg) s.cfg.nLeh (by decide) rfl (by omega) rfl
  have lel := phase_path w conforms noReset .lel 0 (latchCycle s.cfg + s.cfg.nLeh) s.cfg.nLel (by decide) rfl
    (by omega) ends
  exact setup.append (bits.append (leh.append lel))

end Run

/-! ### The lines of a frame -/

section Lines

variable {s : State} (latch_low : s.pllLe = false) (w : SerialWord)
include latch_low

/-- The lines stand still during a phase (42_serializer.md R93-R97). -/
theorem map_lines_phaseStates (p : Phase) (j i n : Nat) :
    (phaseStates s w p j i n).map State.lines =
      List.replicate n ⟨decide (p = .clkh), if p = .setup then s.pllData else w.getLsbD j, decide (p = .leh)⟩ := by
  induction n generalizing i with
  | zero => rfl
  | succ n ih => simp [phaseStates, ih, List.replicate_succ, State.lines, frameState, latch_low]

theorem map_lines_bitStates (j i : Nat) : (bitStates s w j i).map State.lines = bitWaves s.cfg w j := by
  induction j generalizing i with
  | zero => rfl
  | succ j ih => simp [bitStates, bitWaves, bitWave, map_lines_phaseStates latch_low, ih]

theorem map_lines_frameStates : (frameStates s w).map State.lines = waveform s.cfg w s.pllData := by
  simp [frameStates, waveform, map_lines_phaseStates latch_low, map_lines_bitStates latch_low]

end Lines

/-- Settles O37: the frame's path has one state in each of its cycles, and their lines are the waveform. -/
theorem frameWaveform : Obligations.FrameWaveform := by
  intro w s conforms latch_low noReset
  obtain ⟨t, ends⟩ := phaseEnd_next (frameState s w .lel 0 (frameLength s.cfg) 0)
  have path := frame_path w conforms (noResetFor_of_take noReset) le_rfl ends
  calc record State.lines (frameLength s.cfg) (s.startFrame w)
    _ = record State.lines (frameLength s.cfg) (s.startFrame w).clearPulses :=
      (record_clearPulses (fun _ => rfl) _ _).symm
    _ = record State.lines ((frameStates s w).length + 0) (frameState s w .setup 19 0 (s.cfg.nPre - 1)) := by
      rw [clearPulses_startFrame, length_frameStates, Nat.add_zero]
    _ = (frameStates s w).map State.lines := by rw [path.record_eq, record, List.append_nil]
    _ = waveform s.cfg w s.pllData := map_lines_frameStates latch_low w

end Sys2Proof.Machine
end

section
/-! PROOF. Acceptance of a command (43_commands.md R111-R117): the edge of the idle block, and the two things it can do
with the word on the port. -/

namespace Sys2Proof.Machine

/-! ### The edge of the idle block -/

section Idle

variable {s : State} (conforms : buildConforms s.cfg = true) (no_reset : s.ports.rst = false) (idle : s.phase = .idle)
include conforms no_reset idle

/-- R111: the idle block runs the command on its port. -/
theorem step_of_idle_command (valid : s.ports.cmdValid = true) :
    step s = exec (decodeCommand s.ports.cmd) s.dropInput := by
  simp [step_of_conforms conforms, clockEdge, no_reset, idle, valid]

theorem step_of_idle_quiet (quiet : s.ports.cmdValid = false) : step s = .next s.dropInput.clearPulses := by
  simp [step_of_conforms conforms, clockEdge, no_reset, idle, quiet]

end Idle

theorem ports_of_inputs {s : State} {p : Input} {rest : List Input} (inputs : s.inputs = p :: rest) : s.ports = p := by
  simp [State.ports, inputs]

/-! ### Rejected and accepted words -/

/-- R55's range, both ways. -/
theorem inRange_iff (ch : BitVec 8) : inRange ch = true ↔ 1 ≤ ch.toNat ∧ ch.toNat ≤ 190 := by
  simp [inRange]

/-- The build rejects the command word `w` (R117): it validates, and `w` is a TUNE out of range. -/
def Rejects (c : Config) (w : CommandWord) : Prop :=
  w.getLsbD 8 = false ∧ c.validateChannel = true ∧ ¬(1 ≤ (w.setWidth 8).toNat ∧ (w.setWidth 8).toNat ≤ 190)

/-- R117: the two pulses and nothing else. -/
theorem exec_tune_of_rejected {ch : BitVec 8} {s : State} (outside : ¬(1 ≤ ch.toNat ∧ ch.toNat ≤ 190))
    (validates : s.cfg.validateChannel = true) :
    exec (.tune ch) s = .next { s with done := true, errInvalid := true } := by
  rw [exec, execTune_eq, if_neg (mt (inRange_iff ch).mp outside), if_pos validates]
  rfl

theorem exec_of_rejects {s : State} {w : CommandWord} (rejects : Rejects s.cfg w) :
    exec (decodeCommand w) s = .next { s with done := true, errInvalid := true } := by
  obtain ⟨bit8, validates, outside⟩ := rejects
  rw [decodeCommand_of_bit8_clear bit8, exec_tune_of_rejected outside validates]

/-- `u` is `s` with all that the accepted word `w` writes before its R frame starts (R113, R115), so far as the frames
to come depend on it. -/
structure Begun (w : CommandWord) (s u : State) : Prop where
  cfg : u.cfg = s.cfg
  inputs : u.inputs = s.inputs
  latch : u.pllLe = s.pllLe
  data : u.pllData = s.pllData
  frame : u.frame = .frR
  op : u.op = if w.getLsbD 8 then .init else .tune

/-- R113, R115: a word that is not rejected starts the R frame of the command it begins. -/
theorem exec_of_not_rejects {s : State} {w : CommandWord} (accepted : ¬Rejects s.cfg w) :
    ∃ u, Begun w s u ∧ exec (decodeCommand w) s = .next (u.startFrame (wordInProgress u)).clearPulses := by
  cases bit8 : w.getLsbD 8 with
  | true =>
    rw [decodeCommand_of_bit8_set bit8]
    exact ⟨s.beginCommand .init, ⟨rfl, rfl, rfl, rfl, rfl, by rw [bit8]; rfl⟩, rfl⟩
  | false =>
    rw [decodeCommand_of_bit8_clear bit8, exec, execTune_eq]
    by_cases inside : inRange (w.setWidth 8) = true
    · rw [if_pos inside]
      let c := compute s.cfg.correctOnTie (w.setWidth 8)
      exact ⟨(s.storeTuning c.r c.n c.d).beginCommand .tune, ⟨rfl, rfl, rfl, rfl, rfl, by rw [bit8]; rfl⟩, rfl⟩
    · have no_validation : ¬s.cfg.validateChannel = true :=
        fun validates => accepted ⟨bit8, validates, mt (inRange_iff _).mpr inside⟩
      rw [if_neg inside, if_neg no_validation]
      exact ⟨(s.advanceDraws.storeTuning (Config.drawRefMode s.draws) (drawnN s.draws)
        (Config.drawDial s.draws)).beginCommand .tune, ⟨rfl, rfl, rfl, rfl, rfl, by rw [bit8]; rfl⟩, rfl⟩

/-! ### TUNE -/

/-- Settles O11: the rejected TUNE writes the two pulses only, so the block is idle at the next edge, and a quiet edge
clears them. -/
theorem tuneRejected : Obligations.TuneRejected := by
  intro ch s out_of_range validates
  have outside : ¬(1 ≤ ch.toNat ∧ ch.toNat ≤ 190) := by omega
  refine ⟨exec_tune_of_rejected outside validates, fun q rest conforms idle inputs no_reset quiet => ?_⟩
  have offered : s.ports = Input.offer (ch.setWidth 9) := ports_of_inputs inputs
  have decoded : decodeCommand (ch.setWidth 9) = .tune ch := by
    rw [decodeCommand_of_bit8_clear (by simp [BitVec.getLsbD_of_ge]), BitVec.setWidth_setWidth_of_le _ (by decide),
      BitVec.setWidth_eq]
  have dropped : s.dropInput = { s with inputs := q :: rest } := by simp [State.dropInput, inputs]
  have rejection : step s = .next { s with inputs := q :: rest, done := true, errInvalid := true } := by
    rw [step_of_idle_command conforms (by rw [offered]; rfl) idle (by rw [offered]; rfl), offered, dropped]
    exact (congrArg (exec · _) decoded).trans (exec_tune_of_rejected outside validates)
  have not_busy : s.busy = false := by simp [State.busy, idle]
  exact ⟨_, _, rejection, rfl, not_busy, step_of_idle_quiet conforms no_reset idle quiet, rfl, rfl, not_busy⟩

/-- Settles O16: the dial value of an in-range TUNE is 880 + ch, whatever the state. -/
theorem consecutiveDials : Obligations.ConsecutiveDials := by
  intro ch s s' ch_ge ch_le
  have next_channel : (ch + 1).toNat = ch.toNat + 1 := by bv_omega
  refine ⟨_, _, exec_tune_of_bounds s ch_ge (by omega), exec_tune_of_bounds s' (by omega) (by omega), ?_⟩
  simp only [State.beginTune_dial, compute_d, next_channel, BitVec.toNat_ofNat]
  omega

end Sys2Proof.Machine
end

section
/-! PROOF. The edges of the running block: the command port is not read (43_commands.md R120), and the pulses are set by
their two events only (R118). -/

namespace Sys2Proof.Machine

/-- R120: of the ports, an edge of the running block reads the reset only. -/
theorem clockEdge_of_running {s : State} (running : s.phase ≠ .idle) (p : Input) :
    clockEdge p s =
      if p.rst then .next s.applyReset
      else if 0 < s.timer then .next s.clearPulses.countDown
      else phaseEnd s.clearPulses := by
  rw [clockEdge, if_neg running]

/-- Settles O20: in both steps the edge sees the same reset and the same state with the port's cycle dropped. -/
theorem busyBlockIgnoresCommands : Obligations.BusyBlockIgnoresCommands := by
  intro s p rest valid w running
  have edge_eq (q : Input) := clockEdge_of_running (s := { s with inputs := rest }) running q
  have same_edge : clockEdge p { s with inputs := rest } =
      clockEdge { p with cmdValid := valid, cmd := w } { s with inputs := rest } :=
    (edge_eq p).trans (edge_eq { p with cmdValid := valid, cmd := w }).symm
  exact congrArg (fun edge => if buildConforms s.cfg then edge else .refused .nonconformingBuild) same_edge

/-- The exit action of a phase sets `done` at the end of a command only (R114, R115), and never `err_invalid`. -/
theorem phaseEnd_pulses {s t : State} (running : s.phase ≠ .idle) (ends : phaseEnd s.clearPulses = .next t) :
    (t.done = true ↔ s.phase = .lel ∧ ¬(s.op = .tune ∧ s.frame = .frR)) ∧ t.errInvalid = false := by
  obtain ⟨(phase : s.phase = .setup), rfl⟩ | ⟨(phase : s.phase = .data), rfl⟩ | ⟨(phase : s.phase = .clkh), rfl⟩ |
    ⟨(phase : s.phase = .clkl), -, rfl⟩ | ⟨(phase : s.phase = .clkl), -, rfl⟩ | ⟨(phase : s.phase = .leh), rfl⟩ |
    ⟨-, (op : s.op = .tune), (frame : s.frame = .frR), second⟩ |
    ⟨(phase : s.phase = .lel), (last : ¬(s.op = .tune ∧ s.frame = .frR)), rfl⟩ :=
      phaseEnd_cases (s := s.clearPulses) running ends
  · simp [phase]
  · simp [phase]
  · simp [phase]
  · simp [phase]
  · simp [phase]
  · simp [phase]
  · rw [exec_decodeSerial] at second
    cases second
    simp [op, frame]
  · exact ⟨iff_of_true rfl ⟨phase, last⟩, rfl⟩

/-- Settles O26, by what the edge did. An accepted command ends in `start_frame` with the pulses clear; at the end of a
phase `phaseEnd_pulses` tells. -/
theorem pulsesAreSetOnlyByTheirEvents : Obligations.PulsesAreSetOnlyByTheirEvents := by
  intro s t taken rejected ended
  obtain ⟨-, ⟨reset, rfl⟩ | ⟨no_reset, idle, valid, run⟩ | ⟨no_reset, idle, quiet, rfl⟩ |
    ⟨no_reset, running, timer_pos, rfl⟩ | ⟨no_reset, running, timer, ends⟩⟩ := step_cases taken
  · simp [rejected, ended, reset]
  · have rejected_iff : rejected ↔ Rejects s.cfg s.ports.cmd := by simp [rejected, Rejects, no_reset, idle, valid]
    have not_ended : ¬ended := by simp [ended, idle]
    by_cases rejects : Rejects s.cfg s.ports.cmd
    · rw [exec_of_rejects (s := s.dropInput) rejects] at run
      cases run
      simp [rejected_iff, rejects]
    · obtain ⟨u, -, start⟩ := exec_of_not_rejects (s := s.dropInput) rejects
      rw [start] at run
      cases run
      simp [rejected_iff, rejects, not_ended]
  · simp [rejected, ended, idle, quiet]
  · simp [rejected, ended, running, timer_pos.ne']
  · obtain ⟨done_iff, no_error⟩ := phaseEnd_pulses (s := s.dropInput) running ends
    simpa [rejected, ended, running, no_reset, timer, no_error] using done_iff

end Sys2Proof.Machine
end

section
/-! PROOF. The frames of a command, joined: one for INIT, two for TUNE (43_commands.md R113-R116), and the length of
the run (R119). -/

namespace Sys2Proof.Machine

/-! ### The frames of a command -/

theorem NoResetFor.mono {s : State} {m n : Nat} (noReset : NoResetFor s n) (m_le : m ≤ n) : NoResetFor s m :=
  fun i i_lt => noReset i (by omega)

/-- The state in which the second frame of a TUNE is started, where `w` was the word of the first, started in `s`
(R121, phase LEL). -/
def secondStart (s : State) (w : SerialWord) : State :=
  (frameState s w .lel 0 (frameLength s.cfg) 0).secondFrame

/-- The state after a command whose last frame carried `w` and was started in `s` (R114, R115). -/
def commandEnd (s : State) (w : SerialWord) : State :=
  (frameState s w .lel 0 (frameLength s.cfg) 0).finishCommand

theorem noResetFor_secondStart {s : State} (w : SerialWord) (noReset : NoResetFor s (2 * frameLength s.cfg)) :
    NoResetFor (secondStart s w) (frameLength s.cfg) := by
  intro i i_lt
  show (((s.inputs.drop (frameLength s.cfg)).drop i).headD Input.quiet).rst = false
  rw [List.drop_drop]
  exact noReset _ (by omega)

section Frames

variable {s : State} (w : SerialWord) (conforms : buildConforms s.cfg = true)
include conforms

/-- R114, R115: a command's last frame is followed by its end. -/
theorem lastFrame_path (noReset : NoResetFor s (frameLength s.cfg)) (last : ¬(s.op = .tune ∧ s.frame = .frR)) :
    Path (s.startFrame w).clearPulses (frameStates s w) (commandEnd s w) := by
  rw [clearPulses_startFrame]
  exact frame_path w conforms noReset le_rfl (if_neg last)

/-- R113, R104: the first frame of a TUNE is followed at once by the frame of `n_word`. -/
theorem firstFrame_path (noReset : NoResetFor s (frameLength s.cfg)) (first : s.op = .tune ∧ s.frame = .frR) :
    Path (s.startFrame w).clearPulses (frameStates s w) ((secondStart s w).startFrame s.nWord).clearPulses := by
  rw [clearPulses_startFrame]
  exact frame_path w conforms noReset le_rfl ((if_pos first).trans (exec_decodeSerial _ _))

/-- R113: both frames of a TUNE, and its end. -/
theorem tune_path (noReset : NoResetFor s (2 * frameLength s.cfg)) (first : s.op = .tune ∧ s.frame = .frR) :
    Path (s.startFrame w).clearPulses (frameStates s w ++ frameStates (secondStart s w) s.nWord)
      (commandEnd (secondStart s w) s.nWord) := by
  have n_frame := lastFrame_path (s := secondStart s w) s.nWord conforms (noResetFor_secondStart w noReset)
    (by simp [secondStart])
  exact (firstFrame_path w conforms (noReset.mono (by omega)) first).append n_frame

end Frames

/-! ### How long it runs -/

/-- The outputs `busy` and `done` (10_state.md R28, R30). -/
def State.progress (s : State) : Bit × Bit := (s.busy, s.done)

section Progress

variable (s : State) (w : SerialWord)

theorem map_progress_phaseStates {p : Phase} (running : p ≠ .idle) (j i n : Nat) :
    (phaseStates s w p j i n).map State.progress = List.replicate n (true, false) := by
  induction n generalizing i with
  | zero => rfl
  | succ n ih => simp [phaseStates, ih, List.replicate_succ, State.progress, State.busy, frameState, running]

theorem map_progress_bitStates (j i : Nat) :
    (bitStates s w j i).map State.progress = List.replicate (j * bitCycles s.cfg) (true, false) := by
  induction j generalizing i with
  | zero => simp [bitStates]
  | succ j ih =>
    simp only [bitStates, List.map_append, map_progress_phaseStates s w, ne_eq, reduceCtorEq, not_false_eq_true, ih,
      List.replicate_append_replicate, bitCycles]
    congr 1
    ring

/-- R119: the block is busy, and not done, in all L cycles of a frame. -/
theorem map_progress_frameStates :
    (frameStates s w).map State.progress = List.replicate (frameLength s.cfg) (true, false) := by
  simp only [frameStates, List.map_append, map_progress_phaseStates s w, map_progress_bitStates, ne_eq, reduceCtorEq,
    not_false_eq_true, List.replicate_append_replicate, frameLength_eq, latchCycle, Nat.add_assoc]

end Progress

theorem record_one {α : Type} (view : State → α) (s : State) : record view 1 s = [view s] := by
  cases outcome : step s <;> simp [record, outcome]

/-- A path of busy cycles that ends a command shows exactly its length, and then the one `done` cycle. -/
theorem Path.record_progress {s u : State} {us : List State} {w : SerialWord} {n : Nat}
    (path : Path s us (commandEnd u w)) (busy : us.map State.progress = List.replicate n (true, false)) :
    record State.progress (n + 1) s = List.replicate n (true, false) ++ [(false, true)] := by
  have length_eq : us.length = n := by simpa using congrArg List.length busy
  calc record State.progress (n + 1) s
    _ = us.map State.progress ++ record State.progress 1 (commandEnd u w) := by rw [← length_eq, path.record_eq]
    _ = List.replicate n (true, false) ++ [(false, true)] := by rw [busy, record_one]; rfl

/-- Settles O42: the accepted word starts the path of INIT's one frame or of TUNE's two, and each frame is L busy
cycles. -/
theorem commandTiming : Obligations.CommandTiming := by
  intro s p rest conforms idle inputs no_reset valid n accepted noReset
  have offered : s.ports = p := ports_of_inputs inputs
  have not_rejected : ¬Rejects s.cfg p.cmd := by
    rintro ⟨tune, validates, outside⟩
    rcases accepted with init | no_validation | inside
    · exact Bool.false_ne_true (tune.symm.trans init)
    · exact Bool.false_ne_true (no_validation.symm.trans validates)
    · exact outside inside
  obtain ⟨u, begun, start⟩ := exec_of_not_rejects (s := s.dropInput) not_rejected
  have cfg_eq : u.cfg = s.cfg := begun.cfg
  have inputs_eq : u.inputs = rest := by rw [begun.inputs, State.dropInput_inputs, inputs, List.tail_cons]
  refine ⟨_, (step_of_idle_command conforms (offered ▸ no_reset) idle (offered ▸ valid)).trans (offered ▸ start), ?_⟩
  rw [← cfg_eq] at conforms
  have quiet : NoResetFor u n := noResetFor_of_take (inputs_eq ▸ noReset)
  cases command : p.cmd.getLsbD 8 with
  | true =>
    have n_eq : n = frameLength u.cfg := cfg_eq ▸ if_pos command
    have op_init : u.op = .init := by rw [begun.op, command]; rfl
    have last : ¬(u.op = .tune ∧ u.frame = .frR) := by simp [op_init]
    rw [n_eq] at quiet ⊢
    exact (lastFrame_path _ conforms quiet last).record_progress (map_progress_frameStates _ _)
  | false =>
    have n_eq : n = 2 * frameLength u.cfg := cfg_eq ▸ if_neg (ne_true_of_eq_false command)
    have first : u.op = .tune ∧ u.frame = .frR := ⟨by rw [begun.op, command]; rfl, begun.frame⟩
    rw [n_eq] at quiet ⊢
    have busy : (frameStates u (wordInProgress u) ++ frameStates (secondStart u (wordInProgress u)) u.nWord).map
        State.progress = List.replicate (2 * frameLength u.cfg) (true, false) := by
      rw [List.map_append, map_progress_frameStates, map_progress_frameStates, List.replicate_append_replicate, two_mul]
      rfl
    exact (tune_path _ conforms quiet first).record_progress busy

end Sys2Proof.Machine
end

section
/-! PROOF. The reset edge (70_reset_and_hazards.md R141): it wins over the running phase and the offered command. -/

namespace Sys2Proof.Machine

/-- R121: reset comes first, before the phase and the command port are looked at. -/
theorem step_of_reset {s : State} (conforms : buildConforms s.cfg = true) (reset : s.ports.rst = true) :
    step s = .next s.dropInput.applyReset := by
  rw [step_of_conforms conforms, clockEdge, if_pos reset]

/-- The outputs of the reset block (10_state.md R16, R19): the lines, the pulses and `busy` low, the dial at 0. -/
@[simp] theorem State.applyReset_outputs (s : State) :
    s.applyReset.outputs =
      { lines := ⟨false, false, false⟩, busy := false, done := false, errInvalid := false, dial := 0,
        refMode := false } := rfl

/-- Settles O21: the reset edge leads to `applyReset`, whose elements and outputs are the reset values. -/
theorem resetEdge : Obligations.ResetEdge := by
  intro s conforms reset
  refine ⟨s.dropInput.applyReset, step_of_reset conforms reset, ?_⟩
  simp

end Sys2Proof.Machine
end

section
/-! PROOF. The exit actions of the six phases of a frame (42_serializer.md R93-R97, 43_commands.md R121), forwards and
backwards. -/

namespace Sys2Proof.Machine

variable {s : State}

theorem phaseEnd_of_setup (setup : s.phase = .setup) : phaseEnd s = .next s.enterData := by simp [phaseEnd, setup]

theorem phaseEnd_of_data (data : s.phase = .data) : phaseEnd s = .next s.raiseClock := by simp [phaseEnd, data]

theorem phaseEnd_of_clkh (clkh : s.phase = .clkh) : phaseEnd s = .next s.lowerClock := by simp [phaseEnd, clkh]

theorem phaseEnd_of_clkl_left (clkl : s.phase = .clkl) (left : 0 < s.bitsLeft) : phaseEnd s = .next s.enterData := by
  simp [phaseEnd, clkl, left]

theorem phaseEnd_of_clkl_last (clkl : s.phase = .clkl) (none_left : s.bitsLeft = 0) :
    phaseEnd s = .next s.raiseLatch := by
  simp [phaseEnd, clkl, none_left]

theorem phaseEnd_of_leh (leh : s.phase = .leh) : phaseEnd s = .next s.lowerLatch := by simp [phaseEnd, leh]

theorem phaseEnd_of_lel (lel : s.phase = .lel) :
    phaseEnd s = if s.op = .tune ∧ s.frame = .frR then exec (decodeSerial s.nWord) s.secondFrame
      else .next s.finishCommand := by simp [phaseEnd, lel]

/-- What the exit action of a running phase leads to. The second frame of a TUNE is the frame of `n_word`. -/
inductive PhaseExit (s : State) : State → Prop
  | firstBit (setup : s.phase = .setup) : PhaseExit s s.enterData
  | nextBit (clkl : s.phase = .clkl) (left : 0 < s.bitsLeft) : PhaseExit s s.enterData
  | raiseClock (data : s.phase = .data) : PhaseExit s s.raiseClock
  | lowerClock (clkh : s.phase = .clkh) : PhaseExit s s.lowerClock
  | raiseLatch (clkl : s.phase = .clkl) (none_left : s.bitsLeft = 0) : PhaseExit s s.raiseLatch
  | lowerLatch (leh : s.phase = .leh) : PhaseExit s s.lowerLatch
  | secondFrame (lel : s.phase = .lel) (tune : s.op = .tune) (first : s.frame = .frR) :
      PhaseExit s (s.secondFrame.startFrame s.nWord).clearPulses
  | finishCommand (lel : s.phase = .lel) (last : ¬(s.op = .tune ∧ s.frame = .frR)) : PhaseExit s s.finishCommand

theorem phaseExit_of_phaseEnd {t : State} (running : s.phase ≠ .idle) (ends : phaseEnd s = .next t) :
    PhaseExit s t := by
  obtain ⟨setup, rfl⟩ | ⟨data, rfl⟩ | ⟨clkh, rfl⟩ | ⟨clkl, left, rfl⟩ | ⟨clkl, none_left, rfl⟩ | ⟨leh, rfl⟩ |
    ⟨lel, tune, first, second⟩ | ⟨lel, last, rfl⟩ := phaseEnd_cases running ends
  · exact .firstBit setup
  · exact .raiseClock data
  · exact .lowerClock clkh
  · exact .nextBit clkl left
  · exact .raiseLatch clkl none_left
  · exact .lowerLatch leh
  · rw [exec_decodeSerial] at second
    cases second
    exact .secondFrame lel tune first
  · exact .finishCommand lel last

end Sys2Proof.Machine
end

section
/-! PROOF. The invariant `Inv` in every run. A running block with the invariant is in some cycle of a frame
(`frameState`) that was started in a state `Ready` for it, and every cycle of such a frame has the invariant. -/

namespace Sys2Proof.Machine

/-! ### Reset and idle -/

/-- R19, R141: the reset values satisfy every clause; no frame is in progress. -/
theorem inv_applyReset {s : State} (conforms : buildConforms s.cfg = true) : Inv s.applyReset where
  conforms := conforms
  timer_lt_max := (phaseCycles_pos (p := .setup) conforms (by decide)).trans_le (phaseCycles_le_max _ _)
  timer_lt_phase running := absurd rfl running
  bits_left := rfl
  clock := rfl
  latch := rfl
  n_word_c := by simp
  n_frame_of_tune n_frame := by cases n_frame
  done_idle _ := rfl
  err_done err := by cases err
  shreg running := absurd rfl running
  data running := absurd rfl running

/-- Settles O34: a reset state is what a reset leaves of itself. -/
theorem resetHasInv : Obligations.ResetHasInv :=
  ⟨fun c conforms => inv_applyReset (s := .resetOf c) conforms, inv_applyReset (s := .reset) (by decide)⟩

/-- No clause is about the coming inputs. -/
theorem Inv.dropInput {s : State} (inv : Inv s) : Inv s.dropInput := { inv with }

/-- An edge that sets no pulse clears both (R118). -/
theorem Inv.clearPulses {s : State} (inv : Inv s) : Inv s.clearPulses :=
  { inv with
    done_idle := fun done => by cases done
    err_done := fun err => by cases err }

/-- R117: the rejection of a TUNE by an idle block that validates. -/
theorem Inv.reject {s : State} (inv : Inv s) (idle : s.phase = .idle) (validates : s.cfg.validateChannel = true) :
    Inv { s with done := true, errInvalid := true } :=
  { inv with
    done_idle := fun _ => idle
    err_done := fun _ => ⟨rfl, validates⟩ }

/-! ### The frames of states that are ready for one -/

/-- What `start_frame` needs of a state for the frame of its word in progress to keep the invariant. -/
structure Ready (s : State) : Prop where
  conforms : buildConforms s.cfg = true
  latch_low : s.pllLe = false
  n_word_c : s.nWord.getLsbD 0 = false
  n_frame_of_tune : s.frame = .frN → s.op = .tune

/-- R24: never are more than the word's 19 bits left. -/
theorem bitsLeftFits.le {p : Phase} {j : Nat} (bits : bitsLeftFits p j) : j ≤ 19 := by
  cases p <;> simp only [bitsLeftFits] at bits <;> omega

/-- Every cycle of the frame has the invariant. -/
theorem Ready.inv_frameState {s : State} (ready : Ready s) {p : Phase} {j r : Nat} (i : Nat)
    (bits : bitsLeftFits p j) (timer_lt : r < phaseCycles s.cfg p) :
    Inv (frameState s (wordInProgress s) p j i r) where
  conforms := ready.conforms
  timer_lt_max := timer_lt.trans_le (phaseCycles_le_max _ _)
  timer_lt_phase _ := timer_lt
  bits_left := bits
  clock := rfl
  latch := by simp [frameState, ready.latch_low]
  n_word_c := ready.n_word_c
  n_frame_of_tune := ready.n_frame_of_tune
  done_idle done := by cases done
  err_done err := by cases err
  shreg _ := by
    have shifts : 24 - j = 5 + (19 - j) := by
      have := bits.le
      omega
    rw [frameState, shifts, BitVec.shiftLeft_add]
    rfl
  data _ started := if_neg started

/-- The first cycle of the frame has it. -/
theorem Ready.inv_startFrame {s : State} (ready : Ready s) :
    Inv (s.startFrame (wordInProgress s)).clearPulses := by
  rw [clearPulses_startFrame]
  have pre_pos : 0 < s.cfg.nPre := phaseCycles_pos (p := .setup) ready.conforms (by decide)
  exact ready.inv_frameState 0 rfl (Nat.sub_lt pre_pos one_pos)

/-- R92, R102: the shift register with its two shifts taken together. -/
theorem Inv.shreg_eq {s : State} (inv : Inv s) (running : s.phase ≠ .idle) :
    s.shreg = (wordInProgress s).setWidth 24 <<< (24 - s.bitsLeft) := by
  have shifts : 5 + (19 - s.bitsLeft) = 24 - s.bitsLeft := by
    have := inv.bits_left.le
    omega
  rw [inv.shreg running, ← BitVec.shiftLeft_add, shifts]

/-- A running block with the invariant is in a cycle of the frame of its word in progress. -/
theorem Inv.exists_frameState {s : State} (inv : Inv s) (running : s.phase ≠ .idle) :
    ∃ b, Ready b ∧ s = frameState b (wordInProgress b) s.phase s.bitsLeft 0 s.timer := by
  refine ⟨{ s with pllLe := false }, ⟨inv.conforms, rfl, inv.n_word_c, inv.n_frame_of_tune⟩, ?_⟩
  have done_low : s.done = false := eq_false_of_ne_true (mt inv.done_idle running)
  have err_low : s.errInvalid = false :=
    eq_false_of_ne_true fun err => ne_true_of_eq_false done_low (inv.err_done err).1
  have data_eq : s.pllData = if s.phase = .setup then s.pllData else (wordInProgress s).getLsbD s.bitsLeft := by
    split
    · rfl
    · next started => exact inv.data running started
  have pulses_eq : s.clearPulses = s :=
    (congrArg₂ (fun done err => { s with done := done, errInvalid := err }) done_low err_low).symm
  show s = { s.clearPulses with
    shreg := (wordInProgress s).setWidth 24 <<< (24 - s.bitsLeft), pllClk := decide (s.phase = .clkh)
    pllLe := decide (s.phase = .leh) || decide (s.phase ≠ .lel) && false
    pllData := if s.phase = .setup then s.pllData else (wordInProgress s).getLsbD s.bitsLeft }
  rw [pulses_eq, ← inv.shreg_eq running, ← data_eq, ← inv.clock, Bool.and_false, Bool.or_false, ← inv.latch]

/-! ### The edges of the running block -/

/-- R99: inside a phase the timer moves down in its range. -/
theorem Inv.countDown {s : State} (inv : Inv s) : Inv s.countDown :=
  { inv with
    timer_lt_max := (Nat.sub_le _ _).trans_lt inv.timer_lt_max
    timer_lt_phase := fun running => (Nat.sub_le _ _).trans_lt (inv.timer_lt_phase running) }

/-- R114, R115: the end of a command, which leaves both lines low and no bit to send. -/
theorem Inv.finishCommand {s : State} (inv : Inv s) (last : s.phase = .lel) (no_error : s.errInvalid = false) :
    Inv s.finishCommand :=
  { inv with
    timer_lt_phase := fun running => absurd rfl running
    bits_left := (last ▸ inv.bits_left : bitsLeftFits .lel s.bitsLeft)
    clock := inv.clock.trans (by rw [last]; rfl)
    latch := inv.latch.trans (by rw [last]; rfl)
    done_idle := fun _ => rfl
    err_done := fun err => absurd err (ne_true_of_eq_false no_error)
    shreg := fun running => absurd rfl running
    data := fun running => absurd rfl running }

section PhaseEnd

variable {b : State} (ready : Ready b)
include ready

/-- R99: a phase is entered with its whole length on the timer. -/
theorem Ready.inv_phaseStart (p : Phase) {j : Nat} (i : Nat) (running : p ≠ .idle) (bits : bitsLeftFits p j) :
    Inv (frameState b (wordInProgress b) p j i (phaseCycles b.cfg p - 1)) :=
  ready.inv_frameState i bits (Nat.sub_lt (phaseCycles_pos ready.conforms running) one_pos)

/-- R94: after SETUP, and after a CLKL with bits left, the next bit is placed. -/
theorem Ready.inv_enterData {p : Phase} {j : Nat} (i : Nat) (before : p = .setup ∨ p = .clkl) (j_lt : j < 19) :
    Inv (frameState b (wordInProgress b) p (j + 1) i 0).enterData := by
  rw [enterData_frameState b _ j_lt i 0 before]
  exact ready.inv_phaseStart .data i (by decide) (Nat.le_of_lt_succ j_lt)

/-- R113, R104: a TUNE's second frame is started by the end of its first. -/
theorem Ready.inv_secondFrame (w : SerialWord) (j i : Nat) (tune : b.op = .tune) :
    Inv ((frameState b w .lel j i 0).secondFrame.startFrame b.nWord).clearPulses :=
  Ready.inv_startFrame (s := (frameState b w .lel j i 0).secondFrame)
    ⟨ready.conforms, rfl, ready.n_word_c, fun _ => tune⟩

/-- The exit action of every phase of a frame keeps the invariant (R93-R97, R113-R115). -/
theorem Ready.inv_phaseEnd {p : Phase} {j i : Nat} (running : p ≠ .idle) (bits : bitsLeftFits p j) {t : State}
    (ends : phaseEnd (frameState b (wordInProgress b) p j i 0) = .next t) : Inv t := by
  cases phaseExit_of_phaseEnd running ends with
  | firstBit setup =>
    obtain rfl : p = .setup := setup
    obtain rfl : j = 19 := bits
    exact ready.inv_enterData i (.inl rfl) (by decide)
  | nextBit clkl left =>
    obtain rfl : p = .clkl := clkl
    obtain ⟨j, rfl⟩ : ∃ k, j = k + 1 := Nat.exists_eq_add_one.mpr left
    exact ready.inv_enterData i (.inr rfl) (Nat.lt_succ_of_lt bits)
  | raiseClock data =>
    obtain rfl : p = .data := data
    exact ready.inv_phaseStart .clkh i (by decide) bits
  | lowerClock clkh =>
    obtain rfl : p = .clkh := clkh
    exact ready.inv_phaseStart .clkl i (by decide) bits
  | raiseLatch clkl none_left =>
    obtain rfl : p = .clkl := clkl
    exact ready.inv_phaseStart .leh i (by decide) none_left
  | lowerLatch leh =>
    obtain rfl : p = .leh := leh
    exact ready.inv_phaseStart .lel i (by decide) bits
  | secondFrame lel tune first =>
    obtain rfl : p = .lel := lel
    exact ready.inv_secondFrame _ _ _ tune
  | finishCommand lel last =>
    obtain rfl : p = .lel := lel
    exact (ready.inv_frameState i bits (phaseCycles_pos ready.conforms running)).finishCommand rfl rfl

end PhaseEnd

/-- The running block is in a cycle of a frame, and the exit action is the frame's. -/
theorem Inv.phaseEnd {s t : State} (inv : Inv s) (running : s.phase ≠ .idle) (timer : s.timer = 0)
    (ends : Machine.phaseEnd s = .next t) : Inv t := by
  obtain ⟨b, ready, frame_eq⟩ := inv.exists_frameState running
  rw [timer] at frame_eq
  rw [frame_eq] at ends
  exact ready.inv_phaseEnd running inv.bits_left ends

/-! ### The edge of the idle block -/

/-- R79: the packing ends in a shift by one. -/
theorem packN_c (b a : Nat) : (packN b a).getLsbD 0 = false := by
  rw [packN, BitVec.getLsbD_ofNat, Nat.testBit_shiftLeft]
  rfl

/-- R83: the draws stand above C = 0. -/
theorem drawnN_c (k : Nat) : (drawnN k).getLsbD 0 = false := by
  rw [drawnN, BitVec.getLsbD_append]
  rfl

/-- Computed, drawn or kept, `n_word` has C = 0 after every command. -/
theorem exec_command_n_word_c {s t : State} {w : CommandWord} (run : exec (decodeCommand w) s = .next t)
    (n_word_c : s.nWord.getLsbD 0 = false) : t.nWord.getLsbD 0 = false := by
  cases bit8 : w.getLsbD 8 with
  | true =>
    rw [decodeCommand_of_bit8_set bit8] at run
    cases run
    exact n_word_c
  | false =>
    rw [decodeCommand_of_bit8_clear bit8, exec, execTune_eq] at run
    injection run with result
    rw [← result]
    split
    · exact packN_c _ _
    · split
      · exact n_word_c
      · exact drawnN_c _

/-- R113-R117: a command is rejected, and the block stays idle, or its R frame is started. -/
theorem Inv.exec_command {s t : State} (inv : Inv s) (idle : s.phase = .idle) {w : CommandWord}
    (run : exec (decodeCommand w) s = .next t) : Inv t := by
  by_cases rejects : Rejects s.cfg w
  · rw [exec_of_rejects rejects] at run
    cases run
    obtain ⟨-, validates, -⟩ := rejects
    exact inv.reject idle validates
  · obtain ⟨u, begun, start⟩ := exec_of_not_rejects rejects
    have n_word_c := exec_command_n_word_c run inv.n_word_c
    rw [start] at run
    cases run
    have latch_low : u.pllLe = false := begun.latch.trans (inv.latch.trans (by rw [idle]; rfl))
    exact Ready.inv_startFrame
      ⟨begun.cfg ▸ inv.conforms, latch_low, n_word_c, fun n_frame => by cases begun.frame.symm.trans n_frame⟩

/-- Settles O33, by what the edge did: reset, an accepted command, an idle cycle, a tick of the timer, or the end of a
phase. -/
theorem stepKeepsInv : Obligations.StepKeepsInv := by
  intro s t inv taken
  obtain ⟨conforms, ⟨-, rfl⟩ | ⟨-, idle, -, run⟩ | ⟨-, idle, -, rfl⟩ | ⟨-, -, -, rfl⟩ | ⟨-, running, timer,
    ends⟩⟩ := step_cases taken
  · exact inv_applyReset conforms
  · exact inv.dropInput.exec_command idle run
  · exact inv.dropInput.clearPulses
  · exact inv.dropInput.clearPulses.countDown
  · exact inv.dropInput.clearPulses.phaseEnd running timer ends

end Sys2Proof.Machine
end

section
/-! PROOF. Encoding and decoding: instructions on their interface, words in their bytes and in the table's numbering
(30_encoding.md R53-R63, 20_memory.md R39), and the two R words of the block (R59, R65). -/

namespace Sys2Proof

open Machine

/-! ### Instructions and their words -/

/-- R60: C = 1, and the two fields are read back. -/
theorem decodeSerial_serialWordR (upper : BitVec 5) (div : BitVec 13) :
    decodeSerial (serialWordR upper div) = .frameR upper div := by
  have c_bit : (serialWordR upper div).getLsbD 0 = true := by
    rw [serialWordR, BitVec.getLsbD_append, BitVec.getLsbD_append]
    rfl
  have upper_eq : (serialWordR upper div).extractLsb' 14 5 = upper := BitVec.extractLsb'_append_eq_left
  have div_eq : (serialWordR upper div).extractLsb' 1 13 = div :=
    (BitVec.extractLsb'_append_eq_of_add_le (by decide)).trans BitVec.extractLsb'_append_eq_left
  rw [decodeSerial, if_pos c_bit, upper_eq, div_eq]

/-- R57: C = 0, and the two fields are read back. -/
theorem decodeSerial_serialWordN (b : BitVec 11) (a : BitVec 7) :
    decodeSerial (serialWordN b a) = .frameN b a := by
  have c_bit : ¬(serialWordN b a).getLsbD 0 = true := by
    rw [serialWordN, BitVec.getLsbD_append, BitVec.getLsbD_append]
    exact Bool.false_ne_true
  have b_eq : (serialWordN b a).extractLsb' 8 11 = b := BitVec.extractLsb'_append_eq_left
  have a_eq : (serialWordN b a).extractLsb' 1 7 = a :=
    (BitVec.extractLsb'_append_eq_of_add_le (by decide)).trans BitVec.extractLsb'_append_eq_left
  rw [decodeSerial, if_neg c_bit, b_eq, a_eq]

/-- R53: the channel is read back from bits 7:0 under a clear bit 8. -/
theorem decodeCommand_tune (ch : BitVec 8) : decodeCommand (0#1 ++ ch) = .tune ch := by
  have bit8 : (0#1 ++ ch).getLsbD 8 = false := by
    rw [BitVec.getLsbD_append]
    rfl
  rw [decodeCommand_of_bit8_clear bit8, BitVec.setWidth_append, dif_pos (by decide), BitVec.setWidth_eq]

/-- On its interface every instruction is what its word decodes to. -/
theorem decode_encode (i : Instr) : decode (encode i) = i := by
  cases i with
  | tune ch => exact decodeCommand_tune ch
  | init => rfl
  | frameR upper div => exact decodeSerial_serialWordR upper div
  | frameN b a => exact decodeSerial_serialWordN b a

/-! ### Words and their bytes -/

/-- A word is the low 19 bits of the buffer that holds it. -/
theorem extractLsb'_setWidth_serialWord (w : SerialWord) : (w.setWidth 24).extractLsb' 0 19 = w := by
  rw [← BitVec.setWidth_eq_extractLsb' (by decide), BitVec.setWidth_setWidth_of_le _ (by decide), BitVec.setWidth_eq]

/-- Both kinds of word are read back from their bytes: the two of a command (log 6), the transfer buffer of a frame. -/
theorem decodeBytes_encodeBytes (word : CodeWord) : decodeBytes (encodeBytes word) = .ok (decode word) := by
  cases word with
  | command w =>
    have stray_eq : (0#7 ++ w.extractLsb' 8 1 : Byte).extractLsb' 1 7 = 0#7 := BitVec.extractLsb'_append_eq_left
    have bit8_eq : (0#7 ++ w.extractLsb' 8 1 : Byte).extractLsb' 0 1 = w.extractLsb' 8 1 :=
      BitVec.extractLsb'_append_eq_right
    have whole : w.extractLsb' 8 1 ++ w.extractLsb' 0 8 = w.extractLsb' 0 9 :=
      BitVec.extractLsb'_append_extractLsb'_eq_extractLsb' rfl
    rw [encodeBytes, decodeBytes, if_pos stray_eq, bit8_eq, whole, BitVec.extractLsb'_eq_self]
    rfl
  | serial w =>
    rw [encodeBytes, decodeBytes, bufferValue_of_serialWord, extractLsb'_setWidth_serialWord]
    rfl

/-- A number's two low bytes. -/
theorem littleEndianBytes_two (n : Nat) :
    littleEndianBytes 2 n = [BitVec.ofNat 8 n, BitVec.ofNat 8 (n / 256)] := rfl

/-- A number's three low bytes. -/
theorem littleEndianBytes_three (n : Nat) :
    littleEndianBytes 3 n = [BitVec.ofNat 8 n, BitVec.ofNat 8 (n / 256), BitVec.ofNat 8 (n / 65536)] := by
  rw [littleEndianBytes, littleEndianBytes_two, Nat.div_div_eq_div_mul]

/-- A command word has bit 8 and no other in its second byte. -/
theorem toNat_command_byte1 (w : CommandWord) : (0#7 ++ w.extractLsb' 8 1 : Byte).toNat = w.toNat / 256 := by
  have w_lt : w.toNat < 2 ^ 9 := w.isLt
  calc (0#7 ++ w.extractLsb' 8 1 : Byte).toNat
    _ = 0 <<< 1 ||| (w.extractLsb' 8 1).toNat := BitVec.toNat_append 0#7 (w.extractLsb' 8 1)
    _ = w.toNat / 256 % 2 := by simp [BitVec.extractLsb'_toNat, Nat.shiftRight_eq_div_pow]
    _ = w.toNat / 256 := by omega

/-- The bytes of a word are those of its number, low byte first. -/
theorem littleEndianBytes_number (word : CodeWord) :
    littleEndianBytes ((word.width + 7) / 8) word.number = encodeBytes word := by
  cases word with
  | command w =>
    have byte1 : BitVec.ofNat 8 (w.toNat / 256) = 0#7 ++ w.extractLsb' 8 1 := by
      rw [← toNat_command_byte1, BitVec.ofNat_toNat, BitVec.setWidth_eq]
    have count : ((CodeWord.command w).width + 7) / 8 = 2 := by rw [CodeWord.width]
    rw [count, CodeWord.number, littleEndianBytes_two, byte1]
    rfl
  | serial w =>
    have byte1 : BitVec.ofNat 8 (w.toNat / 256) = w.extractLsb' 8 8 :=
      congrArg _ (Nat.shiftRight_eq_div_pow _ 8).symm
    have byte2 : BitVec.ofNat 8 (w.toNat / 65536) = 0#5 ++ w.extractLsb' 16 3 := by
      rw [← toNat_serialWord_byte2, BitVec.ofNat_toNat, BitVec.setWidth_eq]
    have count : ((CodeWord.serial w).width + 7) / 8 = 3 := by rw [CodeWord.width]
    rw [count, CodeWord.number, littleEndianBytes_three, byte1, byte2]
    rfl

/-- Settles O3: the bytes and the table's number of any word decode to what the word does, and an instruction's word
decodes to the instruction. -/
theorem encodeDecodeRoundTrip : Obligations.EncodeDecodeRoundTrip := by
  intro i
  have bytes := decodeBytes_encodeBytes (encode i)
  have numbered : decodeTableWord (encode i).width (encode i).number = some (decode (encode i)) := by
    rw [decodeTableWord, littleEndianBytes_number, bytes]
  rw [decode_encode] at bytes numbered
  exact ⟨decode_encode i, bytes, numbered⟩

/-! ### Serial words -/

/-- Settles O4: the C bit picks the kind of frame, and the fields of either kind, joined again, are the word. -/
theorem serialWordsReencode : Obligations.SerialWordsReencode := by
  intro w
  cases c_bit : w.getLsbD 0 with
  | true =>
    have register : destination w = .frR := if_pos c_bit
    rw [decodeSerial, if_pos c_bit, register]
    exact ⟨congrArg CodeWord.serial (serialWordR_fields w c_bit), by simp, by simp⟩
  | false =>
    have register : destination w = .frN := if_neg (ne_true_of_eq_false c_bit)
    rw [decodeSerial, if_neg (ne_true_of_eq_false c_bit), register]
    exact ⟨congrArg CodeWord.serial (serialWordN_fields w c_bit), by simp, by simp⟩

/-- A frame takes its bits 18:16 from the buffer's last byte (R61). -/
theorem extractLsb'_bufferValue (byte0 byte1 byte2 : Byte) :
    (bufferValue byte0 byte1 byte2).extractLsb' 0 19 = byte2.extractLsb' 0 3 ++ (byte1 ++ byte0) := by
  rw [← BitVec.setWidth_eq_extractLsb' (by decide), ← BitVec.setWidth_eq_extractLsb' (by decide), bufferValue,
    BitVec.setWidth_append, dif_neg (by decide)]
  rfl

/-- Settles O6: the mask keeps the three bits that reach the frame. -/
theorem bufferPaddingIgnored : Obligations.BufferPaddingIgnored := by
  intro byte0 byte1 byte2
  have masked : (byte2 &&& 0x07).extractLsb' 0 3 = byte2.extractLsb' 0 3 := by
    rw [BitVec.extractLsb'_and]
    exact BitVec.and_allOnes
  rw [decodeBytes, decodeBytes, extractLsb'_bufferValue, extractLsb'_bufferValue, masked]

/-- Two R frames with the same word have the same fields. -/
theorem encode_frameR_eq_iff (upper upper' : BitVec 5) (div div' : BitVec 13) :
    encode (.frameR upper div) = encode (.frameR upper' div') ↔ upper = upper' ∧ div = div' := by
  rw [(Function.LeftInverse.injective decode_encode).eq_iff, Instr.frameR.injEq]

/-- R59, R60: the fields of the two R words. -/
theorem wellFormed_frameR_iff (upper : BitVec 5) (div : BitVec 13) :
    (Instr.frameR upper div).wellFormed = true ↔ upper = 0b00010 ∧ (div = 40 ∨ div = 80) := by
  simp [Instr.wellFormed]

/-- Settles O7: R59's two words are the encodings of R60's two pairs of fields, and SELECT answers them. -/
theorem rWordsAreTheConstants : Obligations.RWordsAreTheConstants := by
  have low : CodeWord.serial 0x08051 = encode (.frameR 0b00010 40) := by decide
  have high : CodeWord.serial 0x080A1 = encode (.frameR 0b00010 80) := by decide
  have select_low : decodeSerial (select false) = .frameR 0b00010 40 := by decide
  have select_high : decodeSerial (select true) = .frameR 0b00010 80 := by decide
  refine ⟨fun upper div => ?_, fun upper div => ?_⟩
  · rw [wellFormed_frameR_iff, low, high, encode_frameR_eq_iff, encode_frameR_eq_iff, and_or_left]
  · rw [wellFormed_frameR_iff, Bool.exists_bool, select_low, select_high, Instr.frameR.injEq, Instr.frameR.injEq,
      and_or_left]
    simp only [eq_comm]

end Sys2Proof
end

section
/-! PROOF. What single instructions leave (40_divider_calculator.md R83, R84; 42_serializer.md R92; 43_commands.md R113,
R115, R124). -/

namespace Sys2Proof.Machine

/-! ### Words as frames -/

/-- R92: `shreg[23:5]` is the word and `shreg[4:0]` is 0. -/
theorem shreg_of_serialWord (w : SerialWord) : w.setWidth 24 <<< 5 = w ++ 0#5 := by
  have concat := BitVec.shiftLeft_eq_concat_of_lt (x := w.setWidth 24) (n := 5) (by decide)
  rw [concat]
  exact congrArg (· ++ 0#5) (extractLsb'_setWidth_serialWord w)

/-- R92: everything `start_frame` writes. -/
theorem State.startFrame_eq (w : SerialWord) (s : State) :
    s.startFrame w = { s with
      phase := .setup, timer := s.cfg.nPre - 1, shreg := w ++ 0#5, bitsLeft := 19, pllClk := false } := by
  rw [← shreg_of_serialWord]
  rfl

/-- Settles O13: both rows are `start_frame` of their word, whose fields end in the C bit. -/
theorem framesStart : Obligations.FramesStart := by
  refine ⟨fun upper div s => ?_, fun b a s => ?_⟩
  · have fields : serialWordR upper div ++ 0#5 = upper ++ (div ++ (1#1 ++ 0#5)) := by
      rw [serialWordR, BitVec.append_assoc, BitVec.append_assoc]
      rfl
    rw [exec, execFrameR, State.startFrame_eq, fields]
    rfl
  · have fields : serialWordN b a ++ 0#5 = b ++ (a ++ (0#1 ++ 0#5)) := by
      rw [serialWordN, BitVec.append_assoc, BitVec.append_assoc]
      rfl
    rw [exec, execFrameN, State.startFrame_eq, fields]
    rfl

/-! ### INIT and TUNE -/

/-- Settles O12: INIT is `start_frame` of the word of a clear flag. -/
theorem initStartsLowReference : Obligations.InitStartsLowReference := by
  intro s
  have shreg_low : (select false).setWidth 24 <<< 5 = 0x100A20#24 := shreg_of_select false
  rw [← shreg_low]
  rfl

/-- R83: out of range, a build that does not validate runs the TUNE with the three draws. -/
theorem exec_tune_of_drawn {ch : BitVec 8} {s : State} (outside : ¬(1 ≤ ch.toNat ∧ ch.toNat ≤ 190))
    (no_validation : s.cfg.validateChannel = false) :
    exec (.tune ch) s = .next (s.clearPulses.advanceDraws.beginTune
      (Config.drawRefMode s.draws) (drawnN s.draws) (Config.drawDial s.draws)) := by
  rw [exec, execTune_eq, if_neg (mt (inRange_iff ch).mp outside), if_neg (ne_true_of_eq_false no_validation)]

/-- Settles O10: the drawn results are stored, and `beginTune` writes the rest. -/
theorem tuneDrawn : Obligations.TuneDrawn := by
  intro ch s out_of_range no_validation
  refine ⟨_, _, _, rfl, rfl, rfl, ?_⟩
  rw [exec_tune_of_drawn (by omega) no_validation, State.beginTune_eq]
  rfl

/-- R113: a TUNE that is not rejected ends in `beginTune` with the pulses clear. -/
theorem exec_tune_of_accepted {ch : BitVec 8} {s : State}
    (accepted : (1 ≤ ch.toNat ∧ ch.toNat ≤ 190) ∨ s.cfg.validateChannel = false) :
    ∃ (u : State) (r : Bit) (n : SerialWord) (d : BitVec 16), exec (.tune ch) s = .next (u.clearPulses.beginTune r n d) := by
  by_cases inside : 1 ≤ ch.toNat ∧ ch.toNat ≤ 190
  · exact ⟨s, _, _, _, exec_tune_of_bounds s inside.1 inside.2⟩
  · exact ⟨s.advanceDraws, _, _, _, exec_tune_of_drawn inside (accepted.resolve_left inside)⟩

/-- Settles O14: FRAME_R of SELECT is `start_frame` of it; what TUNE leaves has just been started with that word, so
starting it again changes nothing. -/
theorem commandsBeginWithRFrame : Obligations.CommandsBeginWithRFrame := by
  refine ⟨fun s => ?_, fun ch s accepted => ?_⟩
  · rw [exec_decodeSerial]
    rfl
  · obtain ⟨u, r, n, d, run⟩ := exec_tune_of_accepted accepted
    refine ⟨_, run, ?_⟩
    rw [exec_decodeSerial]
    rfl

/-- Settles O17: COMPUTE sees the channel and the tie option only, and `beginTune` writes its results. -/
theorem tuneForgetsHistory : Obligations.TuneForgetsHistory := by
  intro ch s s' ch_ge ch_le tie_eq
  refine ⟨_, _, exec_tune_of_bounds s ch_ge ch_le, exec_tune_of_bounds s' ch_ge ch_le, ?_⟩
  rw [tie_eq]
  simp only [State.beginTune_refMode, State.beginTune_nWord, State.beginTune_dial, State.beginTune_shreg,
    State.beginTune_bitsLeft, State.beginTune_op, State.beginTune_frame, State.beginTune_phase, and_self]

end Sys2Proof.Machine

namespace Sys2Proof

/-- Settles O1: each word is evaluated. -/
theorem exampleWords : Obligations.ExampleWords :=
  ⟨by decide, by decide, by decide, by decide, by decide, by decide, by decide, by decide, by decide, by decide, by decide,
    by decide, rfl, rfl, rfl⟩

end Sys2Proof
end

section
/-! PROOF. What single steps do: the edge of the idle block, a tick of the timer, and the end of each phase
(42_serializer.md R93-R99, 43_commands.md R111-R115). -/

namespace Sys2Proof.Machine

/-- Settles O18: the acceptance edge of the idle block, with its port's cycle dropped. -/
theorem stepRunsCommand : Obligations.StepRunsCommand := by
  intro s p rest i conforms idle inputs no_reset valid decoded
  have offered : s.ports = p := ports_of_inputs inputs
  rw [step_of_idle_command conforms (offered ▸ no_reset) idle (offered ▸ valid), offered, decoded, State.dropInput, inputs]
  rfl

/-- R118: every instruction overwrites the pulses. -/
theorem exec_clearPulses (i : Instr) (s : State) : exec i s.clearPulses = exec i s := by
  cases i <;> rfl

/-- R94: the bit placed is the top of the shift register, which moves up by one with a zero below. -/
theorem State.enterData_eq (s : State) :
    s.enterData = { s with
      pllData := s.shreg.msb, shreg := s.shreg.extractLsb' 0 23 ++ 0#1, bitsLeft := s.bitsLeft - 1
      phase := .data, timer := s.cfg.nDsu - 1 } := by
  have shifted : s.shreg <<< 1 = s.shreg.extractLsb' 0 23 ++ 0#1 :=
    BitVec.shiftLeft_eq_concat_of_lt (by decide)
  rw [← shifted, BitVec.msb_eq_getLsbD_last]
  rfl

/-- Settles O22: the edge of the idle block without a command clears the pulses. -/
theorem idleBlockWaits : Obligations.IdleBlockWaits :=
  fun _ conforms idle no_reset quiet => step_of_idle_quiet conforms no_reset idle quiet

/-- Settles O23: the edge of a running phase whose timer has not run out. -/
theorem timerCountsDown : Obligations.TimerCountsDown :=
  fun _ conforms running no_reset timer_pos => step_countDown conforms no_reset running timer_pos

/-- Settles O24: each clause is the exit action of its phase. -/
theorem phaseEnds : Obligations.PhaseEnds := by
  intro s conforms no_reset timer u
  have ends {p : Phase} (phase : s.phase = p) (running : p ≠ .idle) : step s = phaseEnd s.dropInput.clearPulses :=
    step_phaseEnd conforms no_reset (phase ▸ running) timer
  refine ⟨fun before left => ?_, fun phase => ?_, fun phase => ?_, fun phase none_left => ?_, fun phase => ?_⟩
  · have placed : step s = .next s.dropInput.clearPulses.enterData := by
      obtain phase | phase := before
      · exact (ends phase (by decide)).trans (phaseEnd_of_setup phase)
      · exact (ends phase (by decide)).trans (phaseEnd_of_clkl_left phase left)
    rw [placed, State.enterData_eq]
    rfl
  · exact (ends phase (by decide)).trans (phaseEnd_of_data phase)
  · exact (ends phase (by decide)).trans (phaseEnd_of_clkh phase)
  · exact (ends phase (by decide)).trans (phaseEnd_of_clkl_last phase none_left)
  · exact (ends phase (by decide)).trans (phaseEnd_of_leh phase)

/-- What the end of a frame's LEL phase does (R121). -/
theorem step_of_lel {s : State} (conforms : buildConforms s.cfg = true) (no_reset : s.ports.rst = false)
    (lel : s.phase = .lel) (timer : s.timer = 0) : step s =
    if s.op = .tune ∧ s.frame = .frR then exec (decodeSerial s.nWord) s.dropInput.clearPulses.secondFrame
    else .next s.dropInput.clearPulses.finishCommand :=
  (step_phaseEnd conforms no_reset (by simp [lel]) timer).trans (phaseEnd_of_lel lel)

/-- Settles O19: of the first frame's end only the cleared pulses stand between, which no instruction sees. -/
theorem stepRunsSecondFrame : Obligations.StepRunsSecondFrame := by
  intro s i conforms no_reset lel timer tune first decoded
  rw [step_of_lel conforms no_reset lel timer, if_pos ⟨tune, first⟩, decoded]
  exact exec_clearPulses i s.dropInput.secondFrame

/-- Settles O25: in both cases the frame is not the first of a TUNE. -/
theorem commandEnds : Obligations.CommandEnds := by
  intro s conforms no_reset lel timer last
  have not_first : ¬(s.op = .tune ∧ s.frame = .frR) := by
    rintro ⟨tune, first⟩
    simp [tune, first] at last
  rw [step_of_lel conforms no_reset lel timer, if_neg not_first]
  rfl

end Sys2Proof.Machine
end

section
/-! PROOF. What every step keeps (10_state.md R21-R33, 43_commands.md R112, R122), which builds run
(42_serializer.md R98), and that nothing raises an exception by default (60_exceptions.md R126). -/

namespace Sys2Proof.Machine

variable {s t : State}

/-! ### What instructions and exit actions keep -/

/-- No instruction touches the build, the coming inputs, LATCH_ENABLE or DATA; it starts a frame or stays in its phase. -/
structure ExecKeeps (s t : State) : Prop where
  cfg : t.cfg = s.cfg
  inputs : t.inputs = s.inputs
  latch : t.pllLe = s.pllLe
  data : t.pllData = s.pllData
  phase : t.phase = .setup ∨ t.phase = s.phase

theorem exec_keeps {i : Instr} (run : exec i s = .next t) : ExecKeeps s t := by
  cases i with
  | tune ch =>
    rw [exec, execTune_eq] at run
    injection run with result
    rw [← result]
    split
    · exact ⟨rfl, rfl, rfl, rfl, .inl rfl⟩
    · split
      · exact ⟨rfl, rfl, rfl, rfl, .inr rfl⟩
      · exact ⟨rfl, rfl, rfl, rfl, .inl rfl⟩
  | init | frameR | frameN =>
    cases run
    exact ⟨rfl, rfl, rfl, rfl, .inl rfl⟩

/-- What TUNE stores (R122), and the draws (log 3). -/
def State.results (s : State) : Bit × SerialWord × BitVec 16 × Nat := (s.refMode, s.nWord, s.dial, s.draws)

/-- The exit action of a phase stores no result, and keeps the build and the coming inputs. -/
theorem phaseEnd_keeps (running : s.phase ≠ .idle) (ends : phaseEnd s = .next t) :
    t.results = s.results ∧ t.cfg = s.cfg ∧ t.inputs = s.inputs := by
  cases phaseExit_of_phaseEnd running ends <;> exact ⟨rfl, rfl, rfl⟩

/-- INIT and a rejected TUNE store no result (R115, R117). -/
theorem exec_command_results {w : CommandWord} (not_stored : w.getLsbD 8 = true ∨ Rejects s.cfg w)
    (run : exec (decodeCommand w) s = .next t) : t.results = s.results := by
  obtain init | rejects := not_stored
  · rw [decodeCommand_of_bit8_set init] at run
    cases run
    rfl
  · rw [exec_of_rejects rejects] at run
    cases run
    rfl

/-- Settles O30: the edge drops one cycle of the ports, and nothing after that touches them or the build. -/
theorem buildIsFixed : Obligations.BuildIsFixed := by
  intro s t taken
  obtain ⟨-, ⟨-, rfl⟩ | ⟨-, -, -, run⟩ | ⟨-, -, -, rfl⟩ | ⟨-, -, -, rfl⟩ | ⟨-, running, -, ends⟩⟩ := step_cases taken
  · exact ⟨rfl, rfl⟩
  · exact ⟨(exec_keeps run).cfg, (exec_keeps run).inputs⟩
  · exact ⟨rfl, rfl⟩
  · exact ⟨rfl, rfl⟩
  · exact (phaseEnd_keeps (s := s.dropInput.clearPulses) running ends).2

/-- Settles O28: of the commands only a TUNE that is not rejected stores results, and no other edge but reset does. -/
theorem onlyTuneAndResetStoreResults : Obligations.OnlyTuneAndResetStoreResults := by
  intro s t taken no_reset no_tune
  have kept : t.results = s.results := by
    obtain ⟨-, ⟨reset, -⟩ | ⟨-, idle, valid, run⟩ | ⟨-, -, -, rfl⟩ | ⟨-, -, -, rfl⟩ | ⟨-, running, -, ends⟩⟩ :=
      step_cases taken
    · exact absurd reset (ne_true_of_eq_false no_reset)
    · have not_stored : s.ports.cmd.getLsbD 8 = true ∨ Rejects s.cfg s.ports.cmd := by
        cases bit8 : s.ports.cmd.getLsbD 8 with
        | true => exact .inl rfl
        | false =>
          have validates : s.cfg.validateChannel = true :=
            eq_true_of_ne_false fun no_validation => no_tune ⟨idle, valid, bit8, .inl no_validation⟩
          exact .inr ⟨bit8, validates, fun inside => no_tune ⟨idle, valid, bit8, .inr inside⟩⟩
      exact exec_command_results (s := s.dropInput) not_stored run
    · rfl
    · rfl
    · exact (phaseEnd_keeps (s := s.dropInput.clearPulses) running ends).1
  simpa only [State.results, Prod.mk.injEq] using kept

/-- Of the exit actions only the placing of a bit writes DATA (R94). -/
theorem phaseEnd_data (running : s.phase ≠ .idle) (ends : phaseEnd s = .next t) (changed : t.pllData ≠ s.pllData) :
    (s.phase = .setup ∨ s.phase = .clkl) ∧ t = s.enterData := by
  cases phaseExit_of_phaseEnd running ends with
  | firstBit setup => exact ⟨.inl setup, rfl⟩
  | nextBit clkl left => exact ⟨.inr clkl, rfl⟩
  | raiseClock | lowerClock | raiseLatch | lowerLatch | secondFrame | finishCommand => exact absurd rfl changed

/-- Settles O29: of the edges without a reset only the exit action of a phase can change DATA. -/
theorem dataLineHolds : Obligations.DataLineHolds := by
  intro s t taken changed
  obtain ⟨-, ⟨reset, -⟩ | ⟨-, -, -, run⟩ | ⟨-, -, -, rfl⟩ | ⟨-, -, -, rfl⟩ | ⟨-, running, -, ends⟩⟩ := step_cases taken
  · exact .inl reset
  · exact absurd (exec_keeps run).data changed
  · exact absurd rfl changed
  · exact absurd rfl changed
  · obtain ⟨before, rfl⟩ := phaseEnd_data (s := s.dropInput.clearPulses) running ends changed
    have not_data : s.phase ≠ .data := by
      rintro data
      simp [data] at before
    exact .inr ⟨rfl, not_data, (BitVec.msb_eq_getLsbD_last _).symm⟩

/-! ### Acceptance -/

/-- Settles O27: the idle block without a command stays idle with the pulses clear, a rejection sets the pulses only,
and every other word starts a frame. -/
theorem acceptanceIsVisible : Obligations.AcceptanceIsVisible := by
  intro s t taken idle no_reset rejects
  obtain ⟨-, ⟨reset, -⟩ | ⟨-, -, valid, run⟩ | ⟨-, -, quiet, rfl⟩ | ⟨-, running, -⟩ | ⟨-, running, -⟩⟩ := step_cases taken
  · exact absurd reset (ne_true_of_eq_false no_reset)
  · by_cases rejected : Rejects s.cfg s.ports.cmd
    · have rejected' : rejects := rejected
      rw [exec_of_rejects (s := s.dropInput) rejected] at run
      cases run
      simp [State.busy, idle, valid, rejected']
    · have accepted : ¬rejects := rejected
      obtain ⟨u, -, start⟩ := exec_of_not_rejects (s := s.dropInput) rejected
      rw [start] at run
      cases run
      simp [State.busy, valid, accepted]
  · simp [State.busy, idle, quiet]
  · exact absurd idle running
  · exact absurd idle running

/-! ### Which builds run, and without exceptions -/

/-- R98's ceiling as an exact inequality. -/
theorem minCycles_le_iff (us f n : Nat) : minCycles us f ≤ n ↔ 1 ≤ n ∧ us * f ≤ n * 1000000 := by
  rw [minCycles, max_le_iff]
  omega

/-- U11: any other build is refused. -/
theorem step_of_not_conforms (refused : ¬buildConforms s.cfg = true) : step s = .refused .nonconformingBuild := by
  rw [step, clockStep, if_neg refused]

theorem exists_step_iff (s : State) : (∃ t, step s = .next t) ↔ buildConforms s.cfg = true := by
  refine ⟨fun ⟨t, taken⟩ => (step_cases taken).1, fun conforms => ?_⟩
  rw [step_of_conforms conforms]
  exact clockEdge_next _ _

/-- Settles O31: a step is taken exactly in a conforming build, and conformance is R98's seven inequalities. -/
theorem conformingBuildsRun : Obligations.ConformingBuildsRun := by
  refine ⟨fun s => ⟨?_, ?_⟩, by decide⟩
  · rw [exists_step_iff]
    simp only [buildConforms, Bool.and_eq_true, decide_eq_true_eq, minCycles_le_iff, and_assoc]
  · rw [exists_step_iff]
    refine ⟨step_of_not_conforms, fun refused conforms => ?_⟩
    obtain ⟨t, taken⟩ := (exists_step_iff s).mpr conforms
    rw [refused] at taken
    cases taken

/-- Settles O32: a build takes every step, and `err_invalid` comes from a rejected TUNE only (O26). -/
theorem noExceptionByDefault : Obligations.NoExceptionByDefault := by
  refine ⟨fun s conforms no_validation => ?_, fun s conforms idle valid init => ?_⟩
  all_goals
    obtain ⟨t, taken⟩ := (exists_step_iff s).mpr conforms
    refine ⟨t, taken, eq_false_of_ne_true fun err => ?_⟩
    obtain ⟨-, -, -, tune, validates, -⟩ := (pulsesAreSetOnlyByTheirEvents s t taken).2.mp err
  · exact ne_true_of_eq_false no_validation validates
  · exact ne_true_of_eq_false tune init

end Sys2Proof.Machine
end

section
/-! PROOF. What the chip sees in a run with the invariant: the edges of CLOCK and LATCH_ENABLE (42_serializer.md R103,
20_memory.md R43), and the word and register of each frame (20_memory.md R38, 30_encoding.md R65). -/

namespace Sys2Proof.Machine

/-! ### The edges of the two lines -/

/-- A phase other than IDLE and SETUP is entered by the exit action of the phase before it. -/
theorem phaseEnd_of_entered {s t : State} (taken : step s = .next t) (entered : t.phase ≠ s.phase)
    (not_idle : t.phase ≠ .idle) (not_setup : t.phase ≠ .setup) :
    s.phase ≠ .idle ∧ phaseEnd s.dropInput.clearPulses = .next t := by
  obtain ⟨-, ⟨-, rfl⟩ | ⟨-, -, -, run⟩ | ⟨-, -, -, rfl⟩ | ⟨-, -, -, rfl⟩ | ⟨-, running, -, ends⟩⟩ := step_cases taken
  · exact absurd rfl not_idle
  · exact absurd (exec_keeps run).phase (not_or_intro not_setup entered)
  · exact absurd rfl entered
  · exact absurd rfl entered
  · exact ⟨running, ends⟩

/-- R95: CLKH follows DATA. -/
theorem raiseClock_of_clkh_entered {s t : State} (taken : step s = .next t) (entered : t.phase ≠ s.phase)
    (clkh : t.phase = .clkh) : s.phase = .data ∧ t = s.dropInput.clearPulses.raiseClock := by
  obtain ⟨running, ends⟩ := phaseEnd_of_entered taken entered (by simp [clkh]) (by simp [clkh])
  cases phaseExit_of_phaseEnd (s := s.dropInput.clearPulses) running ends with
  | raiseClock data => exact ⟨data, rfl⟩
  | firstBit | nextBit | lowerClock | raiseLatch | lowerLatch | secondFrame | finishCommand => cases clkh

/-- R96: LEH follows the last CLKL. -/
theorem raiseLatch_of_leh_entered {s t : State} (taken : step s = .next t) (entered : t.phase ≠ s.phase)
    (leh : t.phase = .leh) : s.phase = .clkl ∧ s.bitsLeft = 0 ∧ t = s.dropInput.clearPulses.raiseLatch := by
  obtain ⟨running, ends⟩ := phaseEnd_of_entered taken entered (by simp [leh]) (by simp [leh])
  cases phaseExit_of_phaseEnd (s := s.dropInput.clearPulses) running ends with
  | raiseLatch clkl none_left => exact ⟨clkl, none_left, rfl⟩
  | firstBit | nextBit | raiseClock | lowerClock | lowerLatch | secondFrame | finishCommand => cases leh

namespace Inv

variable {s : State} (inv : Inv s)
include inv

theorem clock_high_iff : s.pllClk = true ↔ s.phase = .clkh := by rw [inv.clock, decide_eq_true_iff]

theorem clock_low_iff : s.pllClk = false ↔ s.phase ≠ .clkh := by rw [inv.clock, decide_eq_false_iff_not]

theorem latch_high_iff : s.pllLe = true ↔ s.phase = .leh := by rw [inv.latch, decide_eq_true_iff]

theorem latch_low_iff : s.pllLe = false ↔ s.phase ≠ .leh := by rw [inv.latch, decide_eq_false_iff_not]

end Inv

/-- Settles O35: a line rises where its phase is entered, which the step before ends DATA for CLOCK and the last CLKL for
LATCH_ENABLE; the other clauses are the invariant before and after. -/
theorem busProtocol : Obligations.BusProtocol := by
  intro s t inv taken
  have inv' := stepKeepsInv s t inv taken
  refine ⟨fun low high => ?_, fun low high => ?_, ?_, ?_⟩
  · rw [inv.clock_low_iff] at low
    rw [inv'.clock_high_iff] at high
    obtain ⟨data, rfl⟩ := raiseClock_of_clkh_entered taken (high ▸ low.symm) high
    have latch_low : s.pllLe = false := inv.latch_low_iff.mpr (by simp [data])
    have bits : bitsLeftFits .data s.bitsLeft := data ▸ inv.bits_left
    exact ⟨data, latch_low, latch_low, rfl, inv.data (by simp [data]) (by simp [data]), bits⟩
  · rw [inv.latch_low_iff] at low
    rw [inv'.latch_high_iff] at high
    obtain ⟨clkl, last, rfl⟩ := raiseLatch_of_leh_entered taken (high ▸ low.symm) high
    have clock_low : s.pllClk = false := inv.clock_low_iff.mpr (by simp [clkl])
    exact ⟨clkl, last, clock_low, clock_low, rfl, last ▸ inv.data (by simp [clkl]) (by simp [clkl])⟩
  · rintro ⟨clock_high, latch_high⟩
    cases (inv'.clock_high_iff.mp clock_high).symm.trans (inv'.latch_high_iff.mp latch_high)
  · intro idle
    exact ⟨inv'.clock_low_iff.mpr (by simp [idle]), inv'.latch_low_iff.mpr (by simp [idle])⟩

/-! ### The word and the register of a frame -/

/-- R113: a TUNE's first frame carries SELECT of the flag. -/
theorem wordInProgress_of_tune {s : State} (first : s.frame = .frR) (tune : s.op = .tune) :
    wordInProgress s = select s.refMode := by
  simp [wordInProgress, first, tune]

/-- R115: an INIT's frame carries SELECT of 0. -/
theorem wordInProgress_of_init {s : State} (first : s.frame = .frR) (init : s.op = .init) :
    wordInProgress s = select false := by
  simp [wordInProgress, first, init]

/-- The bit whose SELECT a first frame carries. -/
theorem wordInProgress_of_first {s : State} (first : s.frame = .frR) :
    wordInProgress s = select (decide (s.op = .tune) && s.refMode) := by
  cases op : s.op with
  | tune => simp [wordInProgress_of_tune first op]
  | init => simp [wordInProgress_of_init first op]

/-- R121: a second frame carries `n_word`. -/
theorem wordInProgress_of_second {s : State} (second : s.frame = .frN) : wordInProgress s = s.nWord := by
  simp [wordInProgress, second]

/-- R38: the word in progress goes to the register of its frame. -/
theorem Inv.destination_eq {s : State} (inv : Inv s) : destination (wordInProgress s) = s.frame := by
  cases frame : s.frame with
  | frR =>
    rw [wordInProgress_of_first frame]
    cases decide (s.op = .tune) && s.refMode <;> rfl
  | frN =>
    rw [wordInProgress_of_second frame]
    exact if_neg (ne_true_of_eq_false inv.n_word_c)

/-- R38: the C bit of the word in progress, by its frame. -/
theorem Inv.c_bit_eq {s : State} (inv : Inv s) : (wordInProgress s).getLsbD 0 = decide (s.frame = .frR) := by
  rw [← inv.destination_eq]
  cases c_bit : (wordInProgress s).getLsbD 0 <;> simp only [destination, c_bit] <;> rfl

/-- R65: every N word is well formed, and of the R words the two that SELECT answers. -/
theorem Inv.wellFormed_word {s : State} (inv : Inv s) : (decodeSerial (wordInProgress s)).wellFormed = true := by
  cases frame : s.frame with
  | frR =>
    rw [wordInProgress_of_first frame]
    cases decide (s.op = .tune) && s.refMode <;> rfl
  | frN =>
    rw [wordInProgress_of_second frame, decodeSerial, if_neg (ne_true_of_eq_false inv.n_word_c)]
    rfl

/-- R92, R102: the bits still to be placed stand in their order at the top of the shift register. -/
theorem Inv.shreg_bit {s : State} (inv : Inv s) (running : s.phase ≠ .idle) {j : Nat} (j_lt : j < s.bitsLeft) :
    s.shreg.getLsbD (23 - j) = (wordInProgress s).getLsbD (s.bitsLeft - 1 - j) := by
  have bits_le := inv.bits_left.le
  have offset : 23 - j - (24 - s.bitsLeft) = s.bitsLeft - 1 - j := by omega
  have in_shreg : 23 - j < 24 ∧ 24 - s.bitsLeft ≤ 23 - j ∧ s.bitsLeft - 1 - j < 24 := by omega
  rw [inv.shreg_eq running, BitVec.getLsbD_shiftLeft, BitVec.getLsbD_setWidth, offset]
  simp [in_shreg]

/-- Settles O36: the word is that of the frame and its command, and the invariant says where its bits stand. -/
theorem framesGoToTheirRegister : Obligations.FramesGoToTheirRegister := by
  intro s inv
  refine ⟨wordInProgress s, rfl, inv.destination_eq, inv.wellFormed_word, fun first => ?_, fun first => ?_,
    wordInProgress_of_second, fun running j j_lt => inv.shreg_bit running j_lt, inv.data, fun latching => ?_⟩
  · rw [wordInProgress_of_first first]
    cases decide (s.op = .tune) && s.refMode
    · exact .inl rfl
    · exact .inr rfl
  · have flagged : s.op = .tune ∧ s.refMode = true ↔ (decide (s.op = .tune) && s.refMode) = true := by simp
    rw [wordInProgress_of_first first, flagged]
    cases decide (s.op = .tune) && s.refMode <;> decide
  · have none_left : s.bitsLeft = 0 := by
      have bits := inv.bits_left
      obtain phase | phase := latching <;> rwa [phase] at bits
    have data := inv.data (by obtain phase | phase := latching <;> simp [phase])
      (by obtain phase | phase := latching <;> simp [phase])
    rw [data, none_left, inv.c_bit_eq]

end Sys2Proof.Machine
end

section
/-! PROOF. What a command puts on the bus (43_commands.md R113-R116), and the timing of a frame, which its word does not
touch (42_serializer.md R101, R106). -/

namespace Sys2Proof.Machine

/-! ### Records along the path of a frame -/

/-- A record over the whole of a path shows its states. -/
theorem Path.record_states {α : Type} (view : State → α) {s t : State} {us : List State} (path : Path s us t) :
    record view us.length s = us.map view := by
  rw [← Nat.add_zero us.length, path.record_eq, record, List.append_nil]

/-- A view that does not show the pulses sees the states of the frame (42_serializer.md R92-R97). -/
theorem record_startFrame {α : Type} {view : State → α} (blind : ∀ u : State, view u.clearPulses = view u)
    {s : State} (w : SerialWord) (conforms : buildConforms s.cfg = true) (noReset : NoResetFor s (frameLength s.cfg)) :
    record view (frameLength s.cfg) (s.startFrame w) = (frameStates s w).map view := by
  obtain ⟨t, ends⟩ := phaseEnd_next (frameState s w .lel 0 (frameLength s.cfg) 0)
  have path := frame_path w conforms noReset le_rfl ends
  rw [← record_clearPulses blind, clearPulses_startFrame, ← path.record_states, length_frameStates]

/-! ### The timing of a frame -/

section Timing

variable {α : Type} {view : State → α} {s : State} {w w' : SerialWord}
  (same : ∀ p j i r, view (frameState s w p j i r) = view (frameState s w' p j i r))
include same

theorem map_phaseStates_congr (p : Phase) (j i n : Nat) :
    (phaseStates s w p j i n).map view = (phaseStates s w' p j i n).map view := by
  induction n generalizing i with
  | zero => rfl
  | succ n ih => simp only [phaseStates, List.map_cons, same, ih]

theorem map_bitStates_congr (j i : Nat) : (bitStates s w j i).map view = (bitStates s w' j i).map view := by
  induction j generalizing i with
  | zero => rfl
  | succ j ih => simp only [bitStates, List.map_append, map_phaseStates_congr same, ih]

/-- A view that sees no difference between two words in any cycle sees none in their frames. -/
theorem map_frameStates_congr : (frameStates s w).map view = (frameStates s w').map view := by
  simp only [frameStates, List.map_append, map_phaseStates_congr same, map_bitStates_congr same]

end Timing

/-- The last cycle of an LEL phase. -/
def State.atFrameEnd (s : State) : Bool := decide (s.phase = .lel ∧ s.timer = 0)

section FrameEnd

variable (s : State) (w : SerialWord)

theorem map_atFrameEnd_phaseStates {p : Phase} (not_lel : p ≠ .lel) (j i n : Nat) :
    (phaseStates s w p j i n).map State.atFrameEnd = List.replicate n false := by
  induction n generalizing i with
  | zero => rfl
  | succ n ih => simp [phaseStates, ih, List.replicate_succ, State.atFrameEnd, frameState, not_lel]

theorem map_atFrameEnd_bitStates (j i : Nat) :
    (bitStates s w j i).map State.atFrameEnd = List.replicate (j * bitCycles s.cfg) false := by
  induction j generalizing i with
  | zero => simp [bitStates]
  | succ j ih =>
    simp only [bitStates, List.map_append, map_atFrameEnd_phaseStates s w, ne_eq, reduceCtorEq, not_false_eq_true, ih,
      List.replicate_append_replicate, bitCycles]
    congr 1
    ring

/-- The timer runs out in the last cycle of LEL only (R99). -/
theorem map_atFrameEnd_lel (j i n : Nat) :
    (phaseStates s w .lel j i (n + 1)).map State.atFrameEnd = List.replicate n false ++ [true] := by
  induction n generalizing i with
  | zero => rfl
  | succ n ih =>
    rw [phaseStates, List.map_cons, ih]
    rfl

/-- R101: the end of the frame is its cycle L, and no earlier one. -/
theorem map_atFrameEnd_frameStates (conforms : buildConforms s.cfg = true) :
    (frameStates s w).map State.atFrameEnd = List.replicate (frameLength s.cfg - 1) false ++ [true] := by
  obtain ⟨n, lel_eq⟩ : ∃ n, s.cfg.nLel = n + 1 :=
    Nat.exists_eq_add_one.mpr (phaseCycles_pos (p := .lel) conforms (by decide))
  have length_eq : frameLength s.cfg - 1 = latchCycle s.cfg + s.cfg.nLeh + n := by
    rw [frameLength_eq]
    omega
  simp only [frameStates, lel_eq, List.map_append, map_atFrameEnd_lel, map_atFrameEnd_bitStates,
    map_atFrameEnd_phaseStates s w, ne_eq, reduceCtorEq, not_false_eq_true, length_eq, latchCycle,
    ← List.append_assoc, List.replicate_append_replicate]

end FrameEnd

/-- Settles O39: no cycle of a frame shows its word on CLOCK or LATCH_ENABLE, and only LEL's last cycle has the timer run
out in LEL. -/
theorem frameTimingIgnoresTheWord : Obligations.FrameTimingIgnoresTheWord := by
  intro w w' s conforms l noReset
  have quiet : NoResetFor s (frameLength s.cfg) := noResetFor_of_take noReset
  refine ⟨?_, ?_⟩
  · calc record (fun u => (u.pllClk, u.pllLe)) (frameLength s.cfg) (s.startFrame w)
      _ = (frameStates s w).map fun u => (u.pllClk, u.pllLe) := record_startFrame (fun _ => rfl) w conforms quiet
      _ = (frameStates s w').map fun u => (u.pllClk, u.pllLe) := map_frameStates_congr fun _ _ _ _ => rfl
      _ = record (fun u => (u.pllClk, u.pllLe)) (frameLength s.cfg) (s.startFrame w') :=
        (record_startFrame (fun _ => rfl) w' conforms quiet).symm
  · calc record State.atFrameEnd (frameLength s.cfg) (s.startFrame w)
      _ = (frameStates s w).map State.atFrameEnd := record_startFrame (fun _ => rfl) w conforms quiet
      _ = List.replicate (frameLength s.cfg - 1) false ++ [true] := map_atFrameEnd_frameStates s w conforms

/-! ### The bus during a command -/

section Bus

variable {s : State} (w : SerialWord) (conforms : buildConforms s.cfg = true) (latch_low : s.pllLe = false)
include conforms latch_low

/-- R100: one frame, its pulses cleared as an acceptance edge leaves them. -/
theorem record_lines_frame (noReset : ∀ q ∈ s.inputs.take (frameLength s.cfg), q.rst = false) :
    record State.lines (frameLength s.cfg) (s.startFrame w).clearPulses = waveform s.cfg w s.pllData := by
  rw [record_clearPulses fun _ => rfl]
  exact frameWaveform w s conforms latch_low noReset

/-- R104: the two frames of a TUNE follow each other at once; DATA holds the first one's C bit in between. -/
theorem record_lines_tune (noReset : ∀ q ∈ s.inputs.take (2 * frameLength s.cfg), q.rst = false)
    (first : s.op = .tune ∧ s.frame = .frR) :
    record State.lines (2 * frameLength s.cfg) (s.startFrame w).clearPulses =
      waveform s.cfg w s.pllData ++ waveform s.cfg s.nWord (w.getLsbD 0) := by
  have path := tune_path w conforms (noResetFor_of_take noReset) first
  have n_lines : (frameStates (secondStart s w) s.nWord).map State.lines = waveform s.cfg s.nWord (w.getLsbD 0) :=
    map_lines_frameStates rfl s.nWord
  have length_eq : (frameStates s w ++ frameStates (secondStart s w) s.nWord).length = 2 * frameLength s.cfg := by
    rw [List.length_append, length_frameStates, length_frameStates, two_mul]
    rfl
  rw [← length_eq, path.record_states, List.map_append, map_lines_frameStates latch_low, n_lines]

end Bus

/-- R111, R113, R115: the idle block takes the word on its port, and its next state is the first of a frame. -/
theorem step_of_accepted {s : State} {p : Input} {rest : List Input} (conforms : buildConforms s.cfg = true)
    (idle : s.phase = .idle) (inputs : s.inputs = p :: rest) (no_reset : p.rst = false) (valid : p.cmdValid = true)
    (accepted : ¬Rejects s.cfg p.cmd) :
    ∃ u, Begun p.cmd { s with inputs := rest } u ∧ step s = .next (u.startFrame (wordInProgress u)).clearPulses := by
  obtain rfl : s.ports = p := ports_of_inputs inputs
  have dropped : s.dropInput = { s with inputs := rest } := by simp [State.dropInput, inputs]
  rw [step_of_idle_command conforms no_reset idle valid, dropped]
  exact exec_of_not_rejects accepted

/-- Settles O41: INIT's one frame carries SELECT of 0, which is `R_LOW`. -/
theorem initBus : Obligations.InitBus := by
  intro s p rest conforms idle latch_low inputs no_reset valid init noReset
  have accepted : ¬Rejects s.cfg p.cmd := fun rejects => Bool.false_ne_true (rejects.1.symm.trans init)
  obtain ⟨u, begun, taken⟩ := step_of_accepted conforms idle inputs no_reset valid accepted
  have cfg_eq : s.cfg = u.cfg := begun.cfg.symm
  have inputs_eq : rest = u.inputs := begun.inputs.symm
  have data_eq : s.pllData = u.pllData := begun.data.symm
  have word : 0x08051 = wordInProgress u :=
    (wordInProgress_of_init begun.frame (begun.op.trans (if_pos init))).symm
  refine ⟨_, taken, ?_⟩
  rw [cfg_eq, inputs_eq] at noReset
  rw [cfg_eq] at conforms ⊢
  rw [data_eq, word]
  exact record_lines_frame _ conforms (begun.latch.trans latch_low) noReset

/-- The C bit of both R words is 1 (41_reference_selector.md R85). -/
theorem select_c (r : Bit) : (select r).getLsbD 0 = true := by
  cases r <;> rfl

/-- Settles O40: the first frame carries SELECT of the new flag, whose C bit is what DATA holds when the second begins. -/
theorem tuneBus : Obligations.TuneBus := by
  intro s p rest conforms idle latch_low inputs no_reset valid tune stored noReset
  have accepted : ¬Rejects s.cfg p.cmd := by
    rintro ⟨-, validates, outside⟩
    obtain no_validation | inside := stored
    · exact Bool.false_ne_true (no_validation.symm.trans validates)
    · exact outside inside
  obtain ⟨u, begun, taken⟩ := step_of_accepted conforms idle inputs no_reset valid accepted
  have cfg_eq : s.cfg = u.cfg := begun.cfg.symm
  have inputs_eq : rest = u.inputs := begun.inputs.symm
  have data_eq : s.pllData = u.pllData := begun.data.symm
  have op : u.op = .tune := begun.op.trans (if_neg (ne_true_of_eq_false tune))
  have word : wordInProgress u = select u.refMode := wordInProgress_of_tune begun.frame op
  refine ⟨_, taken, ?_⟩
  rw [cfg_eq, inputs_eq] at noReset
  rw [cfg_eq] at conforms ⊢
  rw [data_eq, word, ← select_c u.refMode]
  exact record_lines_tune _ conforms (begun.latch.trans latch_low) noReset ⟨op, begun.frame⟩

end Sys2Proof.Machine
end

section
/-! PROOF. The reader of the bus (30_encoding.md R63, 20_memory.md R43): it takes one sample per bit of a frame, newest
first, and latches the word they write. -/

namespace Sys2Proof.Machine

/-! ### Lines that stand still -/

/-- Without an edge the reader sees nothing. -/
theorem BusReader.see_same {r : BusReader} {l : Lines} (clk : r.clk = l.clk) (le : r.le = l.le) : r.see l = r := by
  obtain ⟨_, _, samples, words⟩ := r
  obtain rfl : _ = l.clk := clk
  obtain rfl : _ = l.le := le
  simp [BusReader.see]

/-- However long the lines stand still, the reader sees their first cycle. -/
theorem BusReader.foldl_see_replicate (r : BusReader) (l : Lines) {n : Nat} (n_pos : 0 < n) :
    (List.replicate n l).foldl BusReader.see r = r.see l := by
  induction n, n_pos using Nat.le_induction with
  | base => rfl
  | succ n _ ih => rw [List.replicate_succ', List.foldl_append, ih]; exact BusReader.see_same rfl rfl

/-- The number written by the low `n` bits of `x`. -/
theorem numberOfBits_range_testBit (n x : Nat) : numberOfBits ((List.range n).map x.testBit) = x % 2 ^ n := by
  induction n generalizing x with
  | zero => simp [numberOfBits, Nat.mod_one]
  | succ n ih =>
    have rest : (List.range n).map (x.testBit ∘ Nat.succ) = (List.range n).map (x / 2).testBit :=
      List.map_congr_left fun i _ => Nat.testBit_succ x i
    rw [List.range_succ_eq_map, List.map_cons, List.map_map, rest, numberOfBits, ih, Nat.pow_succ', Nat.mod_mul,
      Nat.toNat_testBit]
    simp

/-- The bits of a word in the order in which a reader holds its samples: bit 0, the newest, first. -/
def samplesOf (w : SerialWord) (j : Nat) : List Bit := (List.range j).map w.getLsbD

theorem wordOfSamples_samplesOf (w : SerialWord) (older : List Bit) :
    wordOfSamples (samplesOf w 19 ++ older) = some w := by
  have length_eq : (samplesOf w 19).length = 19 := by simp [samplesOf]
  have number : numberOfBits (samplesOf w 19) = w.toNat :=
    (numberOfBits_range_testBit 19 w.toNat).trans (Nat.mod_eq_of_lt w.isLt)
  rw [wordOfSamples, if_pos (by simp [length_eq]), List.take_left' length_eq, number, BitVec.ofNat_toNat, BitVec.setWidth_eq]

section Frame

variable {c : Config} (conforms : buildConforms c = true) (samples : List Bit) (words : List SerialWord)
include conforms

theorem foldl_see_bitWave (b : Bit) :
    (bitWave c b).foldl BusReader.see ⟨false, false, samples, words⟩ = ⟨false, false, b :: samples, words⟩ := by
  have data_pos : 0 < c.nDsu := phaseCycles_pos (p := .data) conforms (by decide)
  have clkh_pos : 0 < c.nCh := phaseCycles_pos (p := .clkh) conforms (by decide)
  have clkl_pos : 0 < c.nCl := phaseCycles_pos (p := .clkl) conforms (by decide)
  rw [bitWave, List.foldl_append, List.foldl_append, BusReader.foldl_see_replicate _ _ data_pos,
    BusReader.foldl_see_replicate _ _ clkh_pos, BusReader.foldl_see_replicate _ _ clkl_pos]
  rfl

theorem foldl_see_bitWaves (w : SerialWord) (j : Nat) :
    (bitWaves c w j).foldl BusReader.see ⟨false, false, samples, words⟩ =
      ⟨false, false, samplesOf w j ++ samples, words⟩ := by
  induction j generalizing samples with
  | zero => rfl
  | succ j ih =>
    rw [bitWaves, List.foldl_append, foldl_see_bitWave conforms, ih, samplesOf, samplesOf, List.range_succ,
      List.map_append, List.append_assoc]
    rfl

theorem foldl_see_waveform (w : SerialWord) (p : Bit) :
    (waveform c w p).foldl BusReader.see ⟨false, false, samples, words⟩ =
      ⟨false, false, samplesOf w 19 ++ samples, w :: words⟩ := by
  have pre_pos : 0 < c.nPre := phaseCycles_pos (p := .setup) conforms (by decide)
  have leh_pos : 0 < c.nLeh := phaseCycles_pos (p := .leh) conforms (by decide)
  have lel_pos : 0 < c.nLel := phaseCycles_pos (p := .lel) conforms (by decide)
  have first : BusReader.see ⟨false, false, samples, words⟩ ⟨false, p, false⟩ = ⟨false, false, samples, words⟩ := rfl
  simp only [waveform, List.foldl_append, BusReader.foldl_see_replicate _ _ pre_pos,
    BusReader.foldl_see_replicate _ _ leh_pos, BusReader.foldl_see_replicate _ _ lel_pos, first, foldl_see_bitWaves conforms]
  simp [BusReader.see, wordOfSamples_samplesOf]

theorem foldl_see_frames (frames : List (SerialWord × Bit)) :
    ∃ taken, (frames.map fun x => waveform c x.1 x.2).flatten.foldl BusReader.see ⟨false, false, samples, words⟩ =
      ⟨false, false, taken, (frames.map Prod.fst).reverse ++ words⟩ := by
  induction frames generalizing samples words with
  | nil => exact ⟨samples, rfl⟩
  | cons x frames ih =>
    obtain ⟨taken, rest⟩ := ih (samplesOf x.1 19 ++ samples) (x.1 :: words)
    refine ⟨taken, ?_⟩
    rw [List.map_cons, List.flatten_cons, List.foldl_append, foldl_see_waveform conforms, rest]
    simp

end Frame

/-- Settles O38: each frame adds its word to what the reader has latched, newest first. -/
theorem framesReadBack : Obligations.FramesReadBack := by
  intro c frames conforms
  obtain ⟨taken, read⟩ := foldl_see_frames conforms [] [] frames
  rw [readFrames, BusReader.start, read, List.append_nil, List.reverse_reverse]

end Sys2Proof.Machine
end

section
/-! PROOF. The assembler (30_encoding.md R67): the words of a line, the number a text of digits writes, and what the line
assembles to. -/

namespace Sys2Proof.Machine

/-! ### The words of a line -/

/-- A character that neither separates words nor begins a comment. -/
def Plain (c : Char) : Prop := c ≠ ';' ∧ isBlank c = false

theorem plain_iff (c : Char) : Plain c ↔ c ≠ ';' ∧ c ≠ ' ' ∧ c ≠ '\t' ∧ c ≠ '\r' := by
  simp [Plain, isBlank, and_assoc]

/-- Lower case makes no character plain that was not. -/
theorem plain_of_toLower {c : Char} (plain : Plain c.toLower) : Plain c := by
  rw [plain_iff] at plain ⊢
  refine ⟨?_, ?_, ?_, ?_⟩ <;> rintro rfl <;> revert plain <;> decide

/-- A text is plain if its lower case is. -/
theorem plain_of_map_toLower {text lower : List Char} (map_eq : text.map Char.toLower = lower)
    (plain : ∀ c ∈ lower, Plain c) : ∀ c ∈ text, Plain c :=
  fun _ mem => plain_of_toLower (plain _ (map_eq ▸ List.mem_map_of_mem mem))

theorem ne_nil_of_map_toLower {text lower : List Char} (map_eq : text.map Char.toLower = lower) (ne_nil : lower ≠ []) :
    text ≠ [] := by
  rintro rfl
  exact ne_nil map_eq.symm

section Words

variable {word : List Char} (ne_nil : word ≠ []) (plain : ∀ c ∈ word, Plain c)
include ne_nil plain

/-- A plain text is one word. -/
theorem lineWords_plain : lineWords [] word = [word] := by
  rw [← List.append_nil word, lineWords_letters word [] plain, List.append_nil, lineWords, List.reverse_reverse,
    List.isEmpty_reverse, if_neg (by simpa using ne_nil), List.append_nil]

/-- A plain text before a space is the first word. -/
theorem lineWords_plain_blank (rest : List Char) : lineWords [] (word ++ ' ' :: rest) = word :: lineWords [] rest := by
  rw [lineWords_letters word _ plain, List.append_nil, lineWords_blank _ _ (by simpa using ne_nil), List.reverse_reverse]

end Words

/-! ### The number that digits write -/

theorem digitValue_digitChar : ∀ d < 16, digitValue (Nat.digitChar d) = some d := by decide

/-- One more digit at the end. -/
theorem digitsValue_concat {base d a : Nat} {digits : List Char} {c : Char} (digit : digitValue c = some d) (d_lt : d < base) :
    ∀ {acc : Nat}, digitsValue base acc digits = some a →
      digitsValue base acc (digits ++ [c]) = some (base * a + d) := by
  induction digits with
  | nil =>
    rintro acc ⟨⟩
    simp [digitsValue, digit, d_lt]
  | cons c' digits ih =>
    intro acc value
    rw [digitsValue] at value
    rw [List.cons_append, digitsValue]
    split at value
    · split at value
      · next small => simp only [small, if_true]; exact ih value
      · cases value
    · cases value

/-- In a base up to 16, the digits of `n` write `n`. -/
theorem digitsValue_toDigits {base : Nat} (base_ge : 1 < base) (base_le : base ≤ 16) (n : Nat) :
    digitsValue base 0 (Nat.toDigits base n) = some n := by
  induction n using Nat.strongRecOn with
  | ind n ih =>
    rw [Nat.toDigits_eq_if base_ge]
    split
    · next n_lt =>
      have one_digit := digitsValue_concat (digitValue_digitChar n (by omega)) n_lt (digits := []) (acc := 0) rfl
      rwa [Nat.mul_zero, Nat.zero_add] at one_digit
    · next n_ge =>
      have rest := ih (n / base) (Nat.div_lt_self (by omega) base_ge)
      have last_lt : n % base < base := Nat.mod_lt _ (by omega)
      rw [digitsValue_concat (digitValue_digitChar _ (by omega)) last_lt rest, Nat.div_add_mod]

/-- What writes a number has digits only. -/
theorem isSome_digitValue_of_digitsValue {base acc n : Nat} {digits : List Char}
    (value : digitsValue base acc digits = some n) : ∀ c ∈ digits, (digitValue c).isSome := by
  induction digits generalizing acc with
  | nil => simp
  | cons c digits ih =>
    rw [digitsValue] at value
    split at value
    · next digit =>
      split at value
      · exact List.forall_mem_cons.mpr ⟨by rw [digit]; rfl, ih value⟩
      · cases value
    · cases value

/-- No digit separates words or begins a comment. -/
theorem plain_of_isSome_digitValue {c : Char} (digit : (digitValue c).isSome) : Plain c := by
  rw [plain_iff]
  refine ⟨?_, ?_, ?_, ?_⟩ <;> rintro rfl <;> revert digit <;> decide

theorem plain_toDigits {base : Nat} (base_ge : 1 < base) (base_le : base ≤ 16) (n : Nat) :
    ∀ c ∈ Nat.toDigits base n, Plain c := fun c mem =>
  plain_of_isSome_digitValue (isSome_digitValue_of_digitsValue (digitsValue_toDigits base_ge base_le n) c mem)

/-- Digits without an `x` are read as decimal. -/
theorem numberValue_decimal {digits : List Char} (ne_nil : digits ≠ []) (no_x : 'x' ∉ digits) :
    numberValue digits = digitsValue 10 0 digits := by
  unfold numberValue
  split
  · exact absurd rfl ne_nil
  · exact absurd (by simp) no_x
  · exact absurd (by simp) no_x
  · rfl

/-- After `0x` the digits are read as hexadecimal. -/
theorem numberValue_hex {digits : List Char} (ne_nil : digits ≠ []) :
    numberValue ('0' :: 'x' :: digits) = digitsValue 16 0 digits := by
  cases digits with
  | nil => exact absurd rfl ne_nil
  | cons => rfl

theorem numberValue_toDigits_ten (n : Nat) : numberValue (Nat.toDigits 10 n) = some n := by
  have value : digitsValue 10 0 (Nat.toDigits 10 n) = some n := digitsValue_toDigits (by decide) (by decide) n
  have x_no_digit : ¬(digitValue 'x').isSome := by decide
  have no_x : 'x' ∉ Nat.toDigits 10 n := mt (isSome_digitValue_of_digitsValue value 'x') x_no_digit
  rw [numberValue_decimal Nat.toDigits_ne_nil no_x, value]

theorem numberValue_toDigits_sixteen (n : Nat) : numberValue ('0' :: 'x' :: Nat.toDigits 16 n) = some n := by
  rw [numberValue_hex Nat.toDigits_ne_nil, digitsValue_toDigits (by decide) (by decide)]

/-! ### Lines -/

/-- The line of a TUNE with any number. -/
theorem assembleLine_tune {mnemonic operand : List Char} {n : Nat} (tune : mnemonic.map Char.toLower = ['t', 'u', 'n', 'e'])
    (ne_nil : operand ≠ []) (plain : ∀ c ∈ operand, Plain c) (number : numberValue operand = some n) :
    assembleLine (mnemonic ++ ' ' :: operand) =
      if n ≤ 255 then .ok (some (BitVec.ofNat 9 n)) else .error (.channelTooLarge n) := by
  have words : lineWords [] (mnemonic ++ ' ' :: operand) = [mnemonic, operand] := by
    rw [lineWords_plain_blank (ne_nil_of_map_toLower tune (by simp))
      (plain_of_map_toLower tune (by simp [plain_iff])), lineWords_plain ne_nil plain]
  simp [assembleLine, words, tune, number]

/-- Settles O8: in either base the digits of `n` are a plain word that writes `n`. -/
theorem assembleTune : Obligations.AssembleTune := by
  intro mnemonic n tune result
  refine ⟨?_, ?_⟩
  · exact assembleLine_tune tune Nat.toDigits_ne_nil (plain_toDigits (by decide) (by decide) n)
      (numberValue_toDigits_ten n)
  · have plain : ∀ c ∈ '0' :: 'x' :: Nat.toDigits 16 n, Plain c := by
      simpa [plain_iff] using plain_toDigits (base := 16) (by decide) (by decide) n
    exact assembleLine_tune tune (List.cons_ne_nil _ _) plain (numberValue_toDigits_sixteen n)

/-- Settles O43: the line is one word, which in lower case is the mnemonic. -/
theorem assembleInit : Obligations.AssembleInit := by
  intro mnemonic init
  have words : lineWords [] mnemonic = [mnemonic] :=
    lineWords_plain (ne_nil_of_map_toLower init (by simp)) (plain_of_map_toLower init (by simp [plain_iff]))
  simp [assembleLine, words, init]

/-- Settles O44: the words of the line are the same. -/
theorem assembleIgnoresComments : Obligations.AssembleIgnoresComments := by
  intro line comment
  rw [assembleLine, lineWords_comment]
  rfl

/-- Settles O45: the first word is the text's, and no line with it is a command, whatever words follow. -/
theorem assembleRejectsOtherMnemonics : Obligations.AssembleRejectsOtherMnemonics := by
  intro word text ne_nil letters not_tune not_init
  have plain : ∀ c ∈ word, Plain c := fun c mem => (plain_iff c).mpr (letters c mem)
  refine ⟨?_, ?_⟩
  · simp [assembleLine, lineWords_plain ne_nil plain, not_init]
  · rw [assembleLine, lineWords_plain_blank ne_nil plain]
    match lineWords [] text with
    | [] => simp [not_init]
    | [operand] => simp [not_tune]
    | _ :: _ :: _ => rfl

end Sys2Proof.Machine
end
